-- ==== Sys2Proof/Word.lean ====
section
/-! DEFINITION. The widths of rule R13, and the closed sets of names the spec uses for values that are not words. -/

namespace Sys2Proof

/-- A dibit, "a pair of bits carried by a single QPSK symbol (values 0..3)": high bit `d[1]`, low bit `d[0]` (R21). -/
abbrev Dibit := BitVec 2

/-- An input byte, four dibits (R220). -/
abbrev Byte := BitVec 8

/-- The matcher register and a sync field: 24 dibits, oldest at bits [47:46] (R103, R207). -/
abbrev SyncWord := BitVec 48

/-- The 24-bit CACH word `B[287:264]` (R210, R661). -/
abbrev CachWord := BitVec 24

/-- The 288-bit burst value `B`, `mb[0]` at bits [287:286] (R211). -/
abbrev BurstBits := BitVec 288

/-- A 64-bit count of milliseconds (R13, R600). -/
abbrev Millis := BitVec 64

/-- A transaction word: `op` in bits [66:64], `data` in bits [63:0] (R300). -/
abbrev TxnWord := BitVec 67

/-- The 21 pattern classes of rule R311, in the order of the ids of rule R312 (0 to 20). The reserved codes 21..31 have
no constructor: "no rule produces them" (R318). -/
inductive PatternId where
  | bsData | bsVoice | msData | msVoice
  | directD0 | directD1 | directV0 | directV1
  | msReverse | reserved
  | voiceBBs | voiceCBs | voiceDBs | voiceEBs | voiceFBs
  | voiceBMs | voiceCMs | voiceDMs | voiceEMs | voiceFMs
  | unknown
deriving DecidableEq, Repr

/-- The real patterns, "one of the 10 sync patterns with a transmitted 48-bit value (ids 0..9)" (glossary, R311). -/
def PatternId.isReal : PatternId → Bool
  | .bsData | .bsVoice | .msData | .msVoice | .directD0 | .directD1 | .directV0 | .directV1
  | .msReverse | .reserved => true
  | .voiceBBs | .voiceCBs | .voiceDBs | .voiceEBs | .voiceFBs
  | .voiceBMs | .voiceCMs | .voiceDMs | .voiceEMs | .voiceFMs | .unknown => false

/-- The voice continuations B to F, ids 10..19 (R311). -/
def PatternId.isContinuation : PatternId → Bool
  | .voiceBBs | .voiceCBs | .voiceDBs | .voiceEBs | .voiceFBs
  | .voiceBMs | .voiceCMs | .voiceDMs | .voiceEMs | .voiceFMs => true
  | .bsData | .bsVoice | .msData | .msVoice | .directD0 | .directD1 | .directV0 | .directV1
  | .msReverse | .reserved | .unknown => false

/-- "One of {NORMAL, PLUS_90, MINUS_90, INVERTED}, indicating which rotation of the sync pattern matched" (R320). -/
inductive CarrierLock where
  | normal | plus90 | minus90 | inverted
deriving DecidableEq, Repr

/-- A timeslot label, 0 or 1 (R13, R660). -/
inductive Slot where
  | slot0 | slot1
deriving DecidableEq, Repr

/-- `1 - slot`. -/
def Slot.toggle : Slot → Slot
  | .slot0 => .slot1
  | .slot1 => .slot0

end Sys2Proof
end

