-- ==== Sys2Proof/Config.lean ====
section
/-! DEFINITION. The fixed constants (R12) and the configuration record (R10). The record is not an element of the spec's
state `S` and no transaction writes it; an instance of the model carries it (log entry 1). -/

namespace Sys2Proof

/-- `BURST_DIBITS` (R12). -/
@[simp] abbrev burstDibits : Nat := 144
/-- `SYNC_OFFSET` (R12): the sync field is dibits [66, 90). -/
@[simp] abbrev syncOffset : Nat := 66
/-- `SYNC_DIBITS` (R12). -/
@[simp] abbrev syncDibits : Nat := 24
/-- `DELAY_DIBITS` (R12): the size of the sync-delay buffer. -/
@[simp] abbrev delayDibits : Nat := 54
/-- `CACH_DIBITS` (R12). -/
@[simp] abbrev cachDibits : Nat := 12
/-- `SYMBOL_RATE` in symbols per second (R12). -/
@[simp] abbrev symbolRate : Nat := 4800
/-- `BIT_RATE` in bits per second (R12). -/
@[simp] abbrev bitRate : Nat := 9600
/-- `LOSS_THRESHOLD`, 4800 + 144 dibits (R12). -/
@[simp] abbrev lossThreshold : Nat := 4944
/-- `LOSS_STEP` in dibits (R12). -/
@[simp] abbrev lossStep : Nat := 4800
/-- The bits a threshold sync-loss reports: 4800 dibits of two bits (R500, R511, 90_conflicts.md C3). -/
@[simp] abbrev lossBits : Nat := 9600
/-- The largest legal threshold (R10). -/
@[simp] abbrev maxThreshold : Nat := 24

/-- The ten real pattern ids in the order of their numbers, `REAL_PATTERNS` of them (R12, R312). -/
def realPatterns : List PatternId :=
  [.bsData, .bsVoice, .msData, .msVoice, .directD0, .directD1, .directV0, .directV1, .msReverse, .reserved]

/-- The configuration parameters of rule R10, "fixed for the life of a model instance". `cachDecode` is the OPEN
parameter `CACH_DECODE` written as plain data: a word's first entry gives its slot and an unlisted word is `none`, so
every total function on 24-bit words is such a list (log entry 2). -/
structure Config where
  searchThreshold : Nat
  syncThreshold : Nat
  pllPresent : Bool
  listenerPresent : Bool
  tableOrder : List PatternId
  cachDecode : List (CachWord × Slot)
deriving DecidableEq, Repr

/-- The defaults of rule R10. R10 gives `CACH_DECODE` no default; here no word decodes, as in the configuration of
95_test_vectors.md. DESIGN CHOICE (unsafe, log entry 2). -/
def Config.default : Config where
  searchThreshold := 3
  syncThreshold := 6
  pllPresent := true
  listenerPresent := true
  tableOrder := realPatterns
  cachDecode := []

end Sys2Proof
end

