-- ==== Sys2Proof/Syntax.lean ====
section
/-! DEFINITION. The transactions, one constructor per row of `spec/opcode_table.json` (R301). -/

namespace Sys2Proof

/-- A legal transaction. Each operand has exactly the width of its field in rule R302, so every value of it is legal:
"every dibit value and every byte value is legal" (R303). -/
inductive Instr where
  /-- `DIBIT d`, op 001 (R500). -/
  | dibit (d : Dibit)
  /-- `BYTE b`, op 010 (R650). -/
  | byte (b : Byte)
  /-- `TIME_HINT t`, op 011 (R610). -/
  | timeHint (t : Millis)
  /-- `RESET`, op 100 (R802). -/
  | reset
deriving DecidableEq, Repr

end Sys2Proof
end

