-- ==== Sys2Proof/WellFormed.lean ====
section
/-! DEFINITION. What is legal: a transaction's operands (R302) and a configuration (R10, R11). A word's op code and its
must-be-zero bits are checked where the word is decoded. -/

namespace Sys2Proof

/-- Every operand value of every transaction is legal (R302, R303): the operand types hold nothing else. -/
def Instr.wellFormed : Instr → Bool
  | .dibit _ => true
  | .byte _ => true
  | .timeHint _ => true
  | .reset => true

/-- A threshold is in 1..24; 0 and 25 are refused (R10, R11). -/
def thresholdLegal (t : Nat) : Bool := decide (1 ≤ t) && decide (t ≤ maxThreshold)

/-- Ids 0..3, which `TABLE_ORDER` puts first (R10, R423). -/
def PatternId.isStandard : PatternId → Bool
  | .bsData | .bsVoice | .msData | .msVoice => true
  | _ => false

/-- Ids 4..7 and 9, which `TABLE_ORDER` puts after ids 0..3. Id 8 "is unconstrained" (R10, R423). -/
def PatternId.isLate : PatternId → Bool
  | .directD0 | .directD1 | .directV0 | .directV1 | .reserved => true
  | _ => false

/-- Every real id is listed, and the list is no longer than that: a permutation of ids 0..9 (R10). -/
def orderIsPermutation (order : List PatternId) : Bool :=
  order.length == realPatterns.length && realPatterns.all (order.contains ·)

/-- No id of 4..7 or 9 stands before an id of 0..3 (R10, R423). -/
def orderIsConstrained : List PatternId → Bool
  | [] => true
  | id :: rest => (!id.isLate || rest.all (fun later => !later.isStandard)) && orderIsConstrained rest

/-- A configuration that meets every "Legal values" entry of rule R10. R11: one that does not "is refused. No model
instance exists for it, and no transaction is ever processed under it". Every `cachDecode` list denotes a total
function, and every boolean is a legal `pllPresent`. -/
def Config.wellFormed (c : Config) : Bool :=
  thresholdLegal c.searchThreshold && thresholdLegal c.syncThreshold && c.listenerPresent &&
    orderIsPermutation c.tableOrder && orderIsConstrained c.tableOrder

end Sys2Proof
end

