-- ==== Sys2Proof/Machine/State.lean ====
section
/-! DEFINITION. The state of an instance of the block (R100 to R118): plain data, and the values after power-on. -/

namespace Sys2Proof.Machine

/-- `DibitDelayBuffer[N]`, "a fixed-size FIFO of dibits": `n` dibits in chronological order, `slots[0]` the oldest. It
never grows or shrinks (R200), so its length is a fact about the datum. -/
structure DibitDelayBuffer (n : Nat) where
  slots : List Dibit
  size : slots.length = n
deriving DecidableEq, Repr

/-- All slots zero (R205). -/
def DibitDelayBuffer.zeros (n : Nat) : DibitDelayBuffer n := ⟨List.replicate n 0, List.length_replicate⟩

/-- The framer states (R105, R520). -/
inductive Fsm where
  | searching | synchronized
deriving DecidableEq, Repr

/-- A tracker: `pat` is the source's `lastPattern`, `err` its `lastBitErrors` (R106). -/
structure Tracker where
  pat : PatternId
  err : BitVec 8
deriving DecidableEq, Repr

/-- `{UNKNOWN, 0}`: not synchronized (R106, R117). -/
def Tracker.lost : Tracker := ⟨.unknown, 0⟩

/-- The value of `S.cur`: 0 selects `trk[0]`, the primary, and 1 selects `trk[1]`, the secondary (R107). -/
inductive TrackerSel where
  | primary | secondary
deriving DecidableEq, Repr

/-- `1 - S.cur` (R107). -/
def TrackerSel.other : TrackerSel → TrackerSel
  | .primary => .secondary
  | .secondary => .primary

/-- The BURST record (R330). `bits` is the burst value `B` of rule R211. -/
structure Burst where
  bits : BurstBits
  sync : PatternId
  lock : CarrierLock
  errors : BitVec 8
  slot : Slot
  tsMs : Millis
deriving DecidableEq, Repr

/-- An output event (R330 to R332). `offsetHz` is a two's complement number of hertz. -/
inductive Event where
  | burst (b : Burst)
  | syncLoss (bits : BitVec 32) (tsMs : Millis)
  | pllCorrect (offsetHz : BitVec 16)
deriving DecidableEq, Repr

/-- The reasons a transaction is refused (R702). All are safe: nothing but the mark changes, and nothing is emitted. -/
inductive RefusalCode where
  /-- Code 1: `S.refused = 1` before the transaction. -/
  | sticky
  /-- Code 2: `op` is 000, 101, 110 or 111. -/
  | reservedOp
  /-- Code 3: a must-be-zero bit is 1. -/
  | nonzeroField
  /-- Code 4: a buffer access out of range (R208). The buffer operations answer it; no transaction reaches it. -/
  | outOfRange
deriving DecidableEq, Repr

/-- Faults that stop the machine. There are none: "No transaction raises an exception, and no condition transfers
control anywhere" (R700). -/
inductive Fault where
deriving DecidableEq, Repr

/-- Reasons for which there is no step at all. A transaction the spec refuses (R702) is not one of them: it has the
next state that rule R702 gives it. -/
inductive Refusal where
  /-- An instruction the model gives no meaning yet, by its mnemonic. Raised by no arm of `exec`. Safe. -/
  | notModelled (mnemonic : String)
  /-- The configuration is illegal: "no transaction is ever processed under it" (R11). Raised by a step of a state that
  no construction gives. Safe: the spec says that no such instance exists. -/
  | illegalConfiguration
deriving DecidableEq, Repr

/-- An instance of the block: the elements of the spec's `S` (R100), the configuration it was constructed from (R10),
and what stands at its ports. -/
structure State where
  /-- `S.mb`, the message buffer: the most recent 144 dibits (R101). -/
  mb : DibitDelayBuffer 144
  /-- `S.db`, the sync-delay buffer: the 54-dibit delay line that feeds the matcher (R102). -/
  db : DibitDelayBuffer 54
  /-- `S.reg`, the matcher's shift register (R103). -/
  reg : SyncWord
  /-- `S.cnt`: dibits since the last burst emission or sync-loss accounting (R104). -/
  cnt : BitVec 32
  /-- `S.fsm` (R105). -/
  fsm : Fsm
  /-- `S.trk[0]`, the primary tracker (R106). -/
  trk0 : Tracker
  /-- `S.trk[1]`, the secondary tracker (R106). -/
  trk1 : Tracker
  /-- `S.cur` (R107). -/
  cur : TrackerSel
  /-- `S.lastSlot`: the timeslot of the most recent burst (R108). -/
  lastSlot : Slot
  /-- `S.ms`, the timebase (R109). -/
  ms : Millis
  /-- `S.refused`, the sticky refusal mark (R110). -/
  refused : Bool
  /-- The configuration (R10). No element of `S`: no transaction writes it (log entry 1). -/
  cfg : Config
  /-- The transaction words that have arrived at the symbol input port, next one first (R706). The model's own field
  (log entry 3). -/
  input : List TxnWord
  /-- The output events of the whole run in their one total order, oldest first (R230). The model's own field
  (log entry 5). -/
  out : List Event
  /-- The refusal that the last transaction returned, if it was refused (R24, R702). The model's own field
  (log entry 6). -/
  reply : Option RefusalCode
deriving DecidableEq, Repr

/-- Power-on reset of an instance with configuration `c`: the "Power-on value" column of rule R117 (R800), with nothing
at its ports. -/
def State.powerOn (c : Config) : State where
  mb := .zeros 144
  db := .zeros 54
  reg := 0
  cnt := 0
  fsm := .searching
  trk0 := .lost
  trk1 := .lost
  cur := .primary
  lastSlot := .slot1
  ms := 0
  refused := false
  cfg := c
  input := []
  out := []
  reply := none

/-- Construction of an instance: the configuration is checked first, and an illegal one gives no instance (R11, R800). -/
def State.construct (c : Config) : Option State :=
  if c.wellFormed then some (.powerOn c) else none

/-- The machine right after reset: the instance constructed from the default configuration (R10, R800). -/
def State.reset : State := .powerOn .default

end Sys2Proof.Machine
end

