-- ==== Sys2Proof/Machine/Flags.lean ====
section
/-! DEFINITION. The derived flags of rule R112. None of them is stored. -/

namespace Sys2Proof.Machine

/-- `is_synchronized(t)`: "`UNKNOWN` means not synchronized" (R112). -/
def Tracker.isSynchronized (t : Tracker) : Bool := decide (t.pat ≠ .unknown)

/-- `synchronized(S)`: one of the two trackers is synchronized (R112). -/
def State.synchronized (s : State) : Bool := s.trk0.isSynchronized || s.trk1.isSynchronized

end Sys2Proof.Machine
end

