-- ==== Sys2Proof/Machine/Operands.lean ====
section
/-! DEFINITION. Operand forms: packing and unpacking of dibits (R21, R211, R220), the bit count of the comparators
(R420) and the carrier rotations (R401 to R403). -/

namespace Sys2Proof.Machine

/-- The value of a dibit sequence, first dibit most significant (R21). -/
def packNat (ds : List Dibit) : Nat := ds.foldl (fun acc d => acc * 4 + d.toNat) 0

/-- `pack(s)`, at width `w` (R21). -/
def pack (w : Nat) (ds : List Dibit) : BitVec w := BitVec.ofNat w (packNat ds)

/-- The `k` low dibits of a number, most significant first: the inverse of packing (R21). -/
def unpackNat : Nat → Nat → List Dibit
  | 0, _ => []
  | k + 1, v => BitVec.ofNat 2 (v / 4 ^ k) :: unpackNat k v

/-- The 24 dibits of a 48-bit word, bits [47:46] first (R222, R341). -/
def syncWordDibits (w : SyncWord) : List Dibit := unpackNat 24 w.toNat

/-- The four dibits of a byte in the order b[7:6], b[5:4], b[3:2], b[1:0] (R220). -/
def byteDibits (b : Byte) : List Dibit :=
  [b.extractLsb' 6 2, b.extractLsb' 4 2, b.extractLsb' 2 2, b.extractLsb' 0 2]

/-- Byte `j` of a burst, `B[287-8j : 280-8j]` (R211). -/
def burstByte (bits : BurstBits) (j : Nat) : Byte := bits.extractLsb' (280 - 8 * j) 8

/-- The 36 bytes in which a burst is delivered, "288 bits, MSB-first, dibit order" (R211, R330). -/
def burstBytes (bits : BurstBits) : List Byte := (List.range 36).map (burstByte bits)

/-- The CACH word of a burst, `B[287:264]` (R210). -/
def cachWord (bits : BurstBits) : CachWord := bits.extractLsb' 264 24

/-- The sync field of a burst, `B[155:108]` (R210). -/
def burstSyncField (bits : BurstBits) : SyncWord := bits.extractLsb' 108 48

/-- The number of 1 bits among the `k` low bits of `v`. -/
def popcountNat : Nat → Nat → Nat
  | 0, _ => 0
  | k + 1, v => v % 2 + popcountNat k (v / 2)

/-- `popcount(v)` (R20). -/
def popcount {w : Nat} (v : BitVec w) : Nat := popcountNat w v.toNat

/-- The Hamming distance of the comparators: it counts bits, not dibit lanes (R411, R420). -/
def hamming (a b : SyncWord) : Nat := popcount (a ^^^ b)

/-- The dibit permutation of a carrier rotation (R401). NORMAL rotates nothing. -/
def rotDibit (lock : CarrierLock) (d : Dibit) : Dibit :=
  match lock with
  | .normal => d
  | .plus90 => match d.toNat with
    | 0 => 1
    | 1 => 3
    | 2 => 0
    | _ => 2
  | .minus90 => match d.toNat with
    | 0 => 2
    | 1 => 0
    | 2 => 3
    | _ => 1
  | .inverted => d ^^^ 3

/-- `rot_L(w)`: the permutation on each of the 24 dibits in place (R401). -/
def rotWord (lock : CarrierLock) (w : SyncWord) : SyncWord := pack 48 ((syncWordDibits w).map (rotDibit lock))

/-- The rotation that undoes a lock: `inv` (R403). -/
def inverseLock : CarrierLock → CarrierLock
  | .normal => .normal
  | .plus90 => .minus90
  | .minus90 => .plus90
  | .inverted => .inverted

end Sys2Proof.Machine
end

