-- ==== Sys2Proof/Machine/Rom.lean ====
section
/-! DEFINITION. The sync pattern ROM (R310 to R318), its four lookups (R400), and the code numbers (R312, R320, R332). -/

namespace Sys2Proof.Machine

/-- The 5-bit code of a pattern id (R312). -/
def patternCode : PatternId → BitVec 5
  | .bsData => 0
  | .bsVoice => 1
  | .msData => 2
  | .msVoice => 3
  | .directD0 => 4
  | .directD1 => 5
  | .directV0 => 6
  | .directV1 => 7
  | .msReverse => 8
  | .reserved => 9
  | .voiceBBs => 10
  | .voiceCBs => 11
  | .voiceDBs => 12
  | .voiceEBs => 13
  | .voiceFBs => 14
  | .voiceBMs => 15
  | .voiceCMs => 16
  | .voiceDMs => 17
  | .voiceEMs => 18
  | .voiceFMs => 19
  | .unknown => 20

/-- The 21 pattern ids in the order of their codes (R311, R312). -/
def allPatternIds : List PatternId :=
  realPatterns ++ [.voiceBBs, .voiceCBs, .voiceDBs, .voiceEBs, .voiceFBs,
    .voiceBMs, .voiceCMs, .voiceDMs, .voiceEMs, .voiceFMs, .unknown]

/-- The pattern id of a code; codes 21..31 are reserved (R318). -/
def patternOfCode (code : BitVec 5) : Option PatternId := allPatternIds[code.toNat]?

/-- The 2-bit code of a carrier lock (R320). -/
def lockCode : CarrierLock → BitVec 2
  | .normal => 0
  | .plus90 => 1
  | .minus90 => 2
  | .inverted => 3

/-- The slot bit of an event (R330). -/
def slotCode : Slot → BitVec 1
  | .slot0 => 0
  | .slot1 => 1

/-- A ROM record (R310). `none` is the sentinel NONE, which is no 48-bit value (R315). -/
structure RomEntry where
  id : PatternId
  canonical : Option SyncWord
  plus90 : Option SyncWord
  minus90 : Option SyncWord
  inverted : Option SyncWord
  hasCach : Bool
  isData : Bool
  isVoice : Bool
deriving DecidableEq, Repr

/-- The record of a real pattern. -/
def realEntry (id : PatternId) (canonical plus90 minus90 inverted : SyncWord) (hasCach isData isVoice : Bool) :
    RomEntry :=
  ⟨id, some canonical, some plus90, some minus90, some inverted, hasCach, isData, isVoice⟩

/-- The record of a pattern with no transmitted sync field (R315). -/
def sentinelEntry (id : PatternId) (hasCach isVoice : Bool) : RomEntry :=
  ⟨id, none, none, none, none, hasCach, false, isVoice⟩

/-- The 21 ROM records: canonical constants and flags of rule R312, rotated constants of rule R314. The ten canonical
values are the spec's own, "from general knowledge, not in source" (R313): UNVERIFIED, log entry 11. -/
def rom : PatternId → RomEntry
  | .bsData => realEntry .bsData 0xDFF57D75DF5D 0xBAAFEBEFBAFB 0x455014104504 0x200A828A20A2 true true false
  | .bsVoice => realEntry .bsVoice 0x755FD7DF75F7 0xEFFABEBAEFAE 0x100541451051 0x8AA028208A08 true false true
  | .msData => realEntry .msData 0xD5D7F77FD757 0xBFBEAEEABEFE 0x404151154101 0x2A28088028A8 false true false
  | .msVoice => realEntry .msVoice 0x7F7D5DD57DFD 0xEAEBFBBFEBAB 0x151404401454 0x8082A22A8202 false false true
  | .directD0 => realEntry .directD0 0xF7FDD5DDFD55 0xAEABBFBBABFF 0x515440445400 0x08022A2202AA false true false
  | .directD1 => realEntry .directD1 0xD7557F5FF7F5 0xBEFFEAFAAEAF 0x410015055150 0x28AA80A0080A false true false
  | .directV0 => realEntry .directV0 0x5D577F7757FF 0xFBFEEAEEFEAA 0x040115110155 0xA2A88088A800 false false true
  | .directV1 => realEntry .directV1 0x7DFFD5F55D5F 0xEBAABFAFFBFA 0x145540500405 0x82002A0AA2A0 false false true
  | .msReverse => realEntry .msReverse 0x77D55F7DFD77 0xEEBFFAEBABEE 0x114005145411 0x882AA0820288 false false false
  | .reserved => realEntry .reserved 0xDD7FF5D757DD 0xBBEAAFBEFEBB 0x441550410144 0x22800A28A822 false false false
  | .voiceBBs => sentinelEntry .voiceBBs true true
  | .voiceCBs => sentinelEntry .voiceCBs true true
  | .voiceDBs => sentinelEntry .voiceDBs true true
  | .voiceEBs => sentinelEntry .voiceEBs true true
  | .voiceFBs => sentinelEntry .voiceFBs true true
  | .voiceBMs => sentinelEntry .voiceBMs false true
  | .voiceCMs => sentinelEntry .voiceCMs false true
  | .voiceDMs => sentinelEntry .voiceDMs false true
  | .voiceEMs => sentinelEntry .voiceEMs false true
  | .voiceFMs => sentinelEntry .voiceFMs false true
  | .unknown => sentinelEntry .unknown false false

/-- The `Direct slot` column of rule R312: no stored field of the record (R317). -/
def directSlot : PatternId → Option Slot
  | .directD0 | .directV0 => some .slot0
  | .directD1 | .directV1 => some .slot1
  | .bsData | .bsVoice | .msData | .msVoice | .msReverse | .reserved
  | .voiceBBs | .voiceCBs | .voiceDBs | .voiceEBs | .voiceFBs
  | .voiceBMs | .voiceCMs | .voiceDMs | .voiceEMs | .voiceFMs | .unknown => none

/-- The constant of pattern `id` under a rotation; NORMAL is the canonical one (R310, R314). -/
def romWord (lock : CarrierLock) (id : PatternId) : Option SyncWord :=
  match lock with
  | .normal => (rom id).canonical
  | .plus90 => (rom id).plus90
  | .minus90 => (rom id).minus90
  | .inverted => (rom id).inverted

/-- `all_patterns()`: the canonical values in `TABLE_ORDER` (R400). -/
def allPatterns (cfg : Config) : List SyncWord := cfg.tableOrder.filterMap (romWord .normal)

/-- `voice_patterns()` (R400). -/
def voicePatterns (cfg : Config) : List PatternId := cfg.tableOrder.filter (fun id => (rom id).isVoice)

/-- `cach_patterns()` (R400). -/
def cachPatterns (cfg : Config) : List PatternId := cfg.tableOrder.filter (fun id => (rom id).hasCach)

/-- The real pattern whose constant under `lock` is `v`. -/
def lookupUnder (lock : CarrierLock) (v : SyncWord) : Option (PatternId × CarrierLock) :=
  (realPatterns.find? (fun id => romWord lock id == some v)).map (·, lock)

/-- `lookup(v)` (R400): the pattern and rotation whose constant is `v`, or (UNKNOWN, NORMAL). -/
def lookup (v : SyncWord) : PatternId × CarrierLock :=
  ([.normal, .plus90, .minus90, .inverted].findSome? (lookupUnder · v)).getD (.unknown, .normal)

/-- The successor of a pattern in the voice chain, `NEXT` (R454). The chain ends at frame F. -/
def nextVoice : PatternId → Option PatternId
  | .bsVoice => some .voiceBBs
  | .voiceBBs => some .voiceCBs
  | .voiceCBs => some .voiceDBs
  | .voiceDBs => some .voiceEBs
  | .voiceEBs => some .voiceFBs
  | .msVoice | .directV0 | .directV1 => some .voiceBMs
  | .voiceBMs => some .voiceCMs
  | .voiceCMs => some .voiceDMs
  | .voiceDMs => some .voiceEMs
  | .voiceEMs => some .voiceFMs
  | .voiceFBs | .voiceFMs => none
  | .bsData | .msData | .directD0 | .directD1 | .msReverse | .reserved | .unknown => none

/-- The PLL offset in hertz, `OFFSET(lock)` (R531): −1200, +1200 and +2400, of which `symbolRate / 4` is 1200. NORMAL
commands none. -/
def pllOffset : CarrierLock → Option (BitVec 16)
  | .normal => none
  | .plus90 => some (-1200)
  | .minus90 => some 1200
  | .inverted => some 2400

end Sys2Proof.Machine
end

