-- ==== Sys2Proof/Machine/Ops.lean ====
section
/-! DEFINITION. The named operations every transaction is built from: the delay buffers (R200 to R208), the tracker file
(R107, R115), the output ports (R230, R706), the timebase (R600 to R603) and the refusal (R702). -/

namespace Sys2Proof.Machine

/-! ### Delay buffers -/

/-- `put(d)`: "insert the newest dibit, discarding the oldest" (R201). -/
def bufPut {n : Nat} (buf : DibitDelayBuffer n) (d : Dibit) : DibitDelayBuffer n :=
  ⟨(buf.slots ++ [d]).tail, by simp [buf.size]⟩

/-- `buf[0]`, the oldest dibit (R200). -/
def bufOldest {n : Nat} (buf : DibitDelayBuffer n) : Dibit := buf.slots.headD 0

/-- `buf[i]` (R200). -/
def bufGet {n : Nat} (buf : DibitDelayBuffer n) (i : Nat) : Dibit := buf.slots.getD i 0

/-- `get_and_put(d)`: "insert newest, return the dibit that falls off" (R202). -/
def bufGetAndPut {n : Nat} (buf : DibitDelayBuffer n) (d : Dibit) : Dibit × DibitDelayBuffer n :=
  (bufOldest buf, bufPut buf d)

/-- The dibits `buf[offset] … buf[offset+length−1]`, for a window inside the buffer. -/
def bufSlice {n : Nat} (buf : DibitDelayBuffer n) (offset length : Nat) : List Dibit :=
  (buf.slots.drop offset).take length

/-- `window(offset, length)` (R203). A window outside the buffer is refused with OUT_OF_RANGE (R208). -/
def bufWindow {n : Nat} (buf : DibitDelayBuffer n) (offset length : Nat) : Except RefusalCode (List Dibit) :=
  if offset + length ≤ n then .ok (bufSlice buf offset length) else .error .outOfRange

/-- `pack_bits(offset, length)`: the window as `2·length` bits, big-endian (R204, R208). -/
def bufPackBits {n : Nat} (buf : DibitDelayBuffer n) (offset length : Nat) :
    Except RefusalCode (BitVec (2 * length)) :=
  (bufWindow buf offset length).map (pack (2 * length))

/-- `reset()`: "all slots zero" (R205). -/
def bufReset {n : Nat} (_ : DibitDelayBuffer n) : DibitDelayBuffer n := .zeros n

/-- `rotate(buf, perm)`: every slot through a dibit permutation (R206). -/
def bufRotate {n : Nat} (buf : DibitDelayBuffer n) (perm : Dibit → Dibit) : DibitDelayBuffer n :=
  ⟨buf.slots.map perm, by simp [buf.size]⟩

/-- `sync_field_value()`: `pack_bits(66, 24)` of the message buffer (R207). The window is inside, so nothing is refused. -/
def syncFieldValue (mb : DibitDelayBuffer 144) : SyncWord := pack 48 (bufSlice mb syncOffset syncDibits)

/-- The burst value `B = pack(mb[0..143])` (R211). -/
def burstValue (mb : DibitDelayBuffer 144) : BurstBits := pack 288 mb.slots

/-! ### The tracker file -/

/-- `S.trk[sel]` (R106). -/
def State.tracker (s : State) : TrackerSel → Tracker
  | .primary => s.trk0
  | .secondary => s.trk1

/-- `S.trk[S.cur]`, the source's `current` (R107). -/
def State.current (s : State) : Tracker := s.tracker s.cur

/-- `S.trk[1 − S.cur]`, the source's `other_tracker` (R107). -/
def State.otherTracker (s : State) : Tracker := s.tracker s.cur.other

/-- `S.trk[S.cur] <- t` (R107, R115). -/
def State.setCurrent (t : Tracker) (s : State) : State :=
  match s.cur with
  | .primary => { s with trk0 := t }
  | .secondary => { s with trk1 := t }

/-- `toggle_current_tracker()` (R524). -/
def State.toggleCurrent (s : State) : State := { s with cur := s.cur.other }

/-! ### Output ports -/

/-- The output ports (R706). -/
inductive Port where
  | listener | pll
deriving DecidableEq, Repr

/-- The port that carries an event (R332, R706). -/
def Event.port : Event → Port
  | .burst _ => .listener
  | .syncLoss _ _ => .listener
  | .pllCorrect _ => .pll

/-- `emit`: the event goes to the end of the output list (R22, R230). -/
def State.emit (e : Event) (s : State) : State := { s with out := s.out ++ [e] }

/-! ### Timebase -/

/-- `ROUND(bits)`, `round(bits · 1000 / 9600)` with halves rounded up (R602). -/
def roundMillis (bits : Nat) : Nat := (bits * 1000 + 4800) / bitRate

/-- `SYNC_LOSS_EVENT(bits)`: the event carries the time before the advance, then `ms` advances modulo 2^64 (R603). The
exact count is stored at the event's 32 bits (R13, R23). -/
def syncLossEvent (bits : Nat) (s : State) : State :=
  { s.emit (.syncLoss (BitVec.ofNat 32 bits) s.ms) with ms := s.ms + BitVec.ofNat 64 (roundMillis bits) }

/-! ### Refusal -/

/-- The number of a reason code (R702). -/
def refusalNumber : RefusalCode → Nat
  | .sticky => 1
  | .reservedOp => 2
  | .nonzeroField => 3
  | .outOfRange => 4

/-- A refused transaction: it "emits no event and changes nothing but `S.refused`" (R702). The reason is what the step
returns, so it stands in `reply`. For STICKY the mark is set already (R110). -/
def refuseTransaction (code : RefusalCode) (s : State) : State := { s with refused := true, reply := some code }

end Sys2Proof.Machine
end

