-- ==== Sys2Proof/Machine/SlotLabel.lean ====
section
/-! DEFINITION. The timeslot label of a burst (R660 to R664). -/

namespace Sys2Proof.Machine

/-- `CACH_DECODE(w)`: `none`, or the slot of a CACH word whose parity is valid (R661). The function is the OPEN
parameter of rule R10, given by the configuration (log entry 2). -/
def cachDecode (cfg : Config) (w : CachWord) : Option Slot := cfg.cachDecode.lookup w

/-- The slot a burst's CACH gives, if its pattern carries one and it decodes (R662). -/
def cachSlot (cfg : Config) (id : PatternId) (bits : BurstBits) : Option Slot :=
  if (rom id).hasCach then cachDecode cfg (cachWord bits) else none

/-- The slot that `ASSIGN_SLOT` returns: the CACH's, else the direct-mode pattern's, else the toggled last-known one
(R662). -/
def slotFor (cfg : Config) (id : PatternId) (bits : BurstBits) (last : Slot) : Slot :=
  match cachSlot cfg id bits with
  | some slot => slot
  | none =>
    match directSlot id with
    | some slot => slot
    | none => last.toggle

/-- `ASSIGN_SLOT(id, B)`: the slot it returns is stored as the last-known one in all three cases (R662). -/
def assignSlot (id : PatternId) (bits : BurstBits) (s : State) : State :=
  { s with lastSlot := slotFor s.cfg id bits s.lastSlot }

end Sys2Proof.Machine
end

