-- ==== Sys2Proof/Machine/Matcher.lean ====
section
/-! DEFINITION. The sync pattern matcher and rotation classifier (R410 to R414). -/

namespace Sys2Proof.Machine

/-- `match(id, lock, errors)`: what a comparator reports (R411, R450). -/
structure Match where
  id : PatternId
  lock : CarrierLock
  errors : Nat
deriving DecidableEq, Repr

/-- The tests of one pattern in `SEARCH_COMPARE`: the soft match on the canonical constant, then exact matches on
plus90, minus90 and inverted (R411). A pattern with no constant never matches (R315). -/
def searchPattern (r : SyncWord) (threshold : Nat) (id : PatternId) : Option Match :=
  match (rom id).canonical with
  | none => none
  | some c =>
    if hamming r c ≤ threshold then some ⟨id, .normal, hamming r c⟩
    else if some r = (rom id).plus90 then some ⟨id, .plus90, 0⟩
    else if some r = (rom id).minus90 then some ⟨id, .minus90, 0⟩
    else if some r = (rom id).inverted then some ⟨id, .inverted, 0⟩
    else none

/-- `SEARCH_COMPARE(r, T)` over a table order: "the first match in table order wins" (R411). -/
def searchCompare (order : List PatternId) (r : SyncWord) (threshold : Nat) : Option Match :=
  order.findSome? (searchPattern r threshold)

/-- The shift of `MATCH_FEED`: `mask48((reg << 2) | delayed)` (R410). -/
def shiftRegister (reg : SyncWord) (delayed : Dibit) : SyncWord := (reg <<< 2) ||| delayed.zeroExtend 48

/-- `MATCH_FEED(delayed)`, its write: the register shifts in the delayed dibit (R410). -/
def matchFeed (delayed : Dibit) (s : State) : State := { s with reg := shiftRegister s.reg delayed }

/-- `MATCH_FEED(delayed)`, its answer, on the state its write leaves: the search comparison of the register (R410). -/
def matchReport (s : State) : Option Match := searchCompare s.cfg.tableOrder s.reg s.cfg.searchThreshold

/-- `SET_REGISTER(v)`: it "performs no comparison and reports no match" (R413). -/
def setRegister (v : SyncWord) (s : State) : State := { s with reg := v }

end Sys2Proof.Machine
end

