-- ==== Sys2Proof/Machine/TrackerStep.lean ====
section
/-! DEFINITION. The sync tracker and the voice-superframe predictor (R450 to R457). -/

namespace Sys2Proof.Machine

/-- The exact pass of `SYNC_COMPARE` on one pattern (R450). -/
def exactPattern (f : SyncWord) (id : PatternId) : Option Match :=
  if (rom id).canonical = some f then some ⟨id, .normal, 0⟩ else none

/-- The soft pass of `SYNC_COMPARE` on one pattern (R450). -/
def softPattern (f : SyncWord) (threshold : Nat) (id : PatternId) : Option Match :=
  match (rom id).canonical with
  | none => none
  | some c => if hamming f c ≤ threshold then some ⟨id, .normal, hamming f c⟩ else none

/-- `SYNC_COMPARE(f, T)`: an exact pass over the table order, then a soft pass; rotated variants are never tested
(R450). -/
def syncCompare (order : List PatternId) (f : SyncWord) (threshold : Nat) : Option Match :=
  match order.findSome? (exactPattern f) with
  | some m => some m
  | none => order.findSome? (softPattern f threshold)

/-- What `TRACKER_STEP` returns (R451). -/
inductive TrackerResult where
  | synchronized | lostSync
deriving DecidableEq, Repr

/-- `TRACKER_STEP` on the sync field `f`: a real match first, then the voice chain, then loss (R451, R452, R453, R456).
The tracker it leaves, and its result. -/
def trackerStep (cfg : Config) (f : SyncWord) (t : Tracker) : Tracker × TrackerResult :=
  match syncCompare cfg.tableOrder f cfg.syncThreshold with
  | some m => (⟨m.id, BitVec.ofNat 8 m.errors⟩, .synchronized)
  | none =>
    match nextVoice t.pat with
    | some p => (⟨p, 0⟩, .synchronized)
    | none => (Tracker.lost, .lostSync)

/-- `TRACKER_SET` of the current tracker, the source's `current.set(pattern, bitErrors)` (R455). -/
def trackerSet (id : PatternId) (errors : BitVec 8) (s : State) : State := s.setCurrent ⟨id, errors⟩

end Sys2Proof.Machine
end

