-- ==== Sys2Proof/Machine/Framer.lean ====
section
/-! DEFINITION. The burst framer FSM (R500 to R552): the DIBIT transaction and the operations it is made of. -/

namespace Sys2Proof.Machine

/-- `EMIT_BURST`, step 1: a sync-loss of `2·(cnt − 144)` bits when `cnt > 144` (R540). -/
def padBurst (s : State) : State :=
  if burstDibits < s.cnt.toNat then syncLossEvent (2 * (s.cnt.toNat - burstDibits)) s else s

/-- `EMIT_BURST`, steps 2 and 3: pack the message buffer, assign the slot, emit the BURST stamped with `ms`, and set
`cnt` to 0 (R541). -/
def packAndEmit (id : PatternId) (errors : BitVec 8) (lock : CarrierLock) (s : State) : State :=
  let bits := burstValue s.mb
  let labelled := assignSlot id bits s
  { labelled.emit (.burst ⟨bits, id, lock, errors, labelled.lastSlot, labelled.ms⟩) with cnt := 0 }

/-- `EMIT_BURST(id, e, lock)` (R540, R541). -/
def emitBurst (id : PatternId) (errors : BitVec 8) (lock : CarrierLock) (s : State) : State :=
  packAndEmit id errors lock (padBurst s)

/-- The PLL command of a fire: `PLL_CORRECT` with `OFFSET(lock)`, if `lock` is not NORMAL and a PLL is present (R530,
R531). -/
def commandPll (lock : CarrierLock) (s : State) : State :=
  match pllOffset lock with
  | some offset => if s.cfg.pllPresent then s.emit (.pllCorrect offset) else s
  | none => s

/-- Buffer repair: every dibit of `mb` through the inverse rotation, whether or not a PLL is present (R532). The inverse
of NORMAL is the identity. -/
def repairBuffer (lock : CarrierLock) (s : State) : State :=
  { s with mb := bufRotate s.mb (rotDibit (inverseLock lock)) }

/-- `ON_FIRE(id, lock, e)` (R530). -/
def onFire (m : Match) (s : State) : State :=
  let errors := BitVec.ofNat 8 m.errors
  let set := trackerSet m.id errors s
  let repaired := repairBuffer m.lock (commandPll m.lock set)
  { emitBurst m.id errors m.lock repaired with fsm := .synchronized }

/-- The return to searching: the FSM state, and the register reloaded with the sync field of the burst just examined;
`cnt` stays (R523). -/
def returnToSearching (s : State) : State := setRegister (syncFieldValue s.mb) { s with fsm := .searching }

/-- The outcome of a boundary once the tracker has stepped: a burst, a placeholder burst, or the return to searching
(R521, R522, R523). -/
def boundaryOutcome (result : TrackerResult) (s : State) : State :=
  match result with
  | .synchronized => emitBurst s.current.pat s.current.err .normal s
  | .lostSync =>
    if s.otherTracker.isSynchronized then emitBurst .unknown 0 .normal s
    else returnToSearching s

/-- `BOUNDARY()` (R521, R524). -/
def boundary (s : State) : State :=
  let stepped := trackerStep s.cfg (syncFieldValue s.mb) s.current
  (boundaryOutcome stepped.2 (s.setCurrent stepped.1)).toggleCurrent

/-- The sync-loss threshold at the end of a searching step (R511). -/
def lossCheck (s : State) : State :=
  if lossThreshold < s.cnt.toNat then
    let reported := syncLossEvent lossBits s
    { reported with cnt := reported.cnt - BitVec.ofNat 32 lossStep }
  else s

/-- The searching branch of a DIBIT step: the matcher is fed the dibit that fell off the delay line, a fire is handled,
and the threshold is tested (R500, R510). -/
def searchStep (delayed : Dibit) (s : State) : State :=
  let fed := matchFeed delayed s
  match matchReport fed with
  | some m => lossCheck (onFire m fed)
  | none => lossCheck fed

/-- The synchronized branch of a DIBIT step: a boundary at 144 dibits, else nothing (R500, R520). -/
def synchronizedStep (s : State) : State := if burstDibits ≤ s.cnt.toNat then boundary s else s

/-- What every DIBIT step does first: count the dibit and put it in both buffers (R500). -/
def receiveDibit (d : Dibit) (s : State) : State :=
  { s with cnt := s.cnt + 1, mb := bufPut s.mb d, db := (bufGetAndPut s.db d).2 }

/-- One DIBIT step, the source's `on_dibit(d)` (R500). -/
def dibitStep (d : Dibit) (s : State) : State :=
  let delayed := (bufGetAndPut s.db d).1
  let received := receiveDibit d s
  match s.fsm with
  | .synchronized => synchronizedStep received
  | .searching => searchStep delayed received

/-- A sequence of DIBIT steps, oldest dibit first. -/
def dibitSteps (ds : List Dibit) (s : State) : State := ds.foldl (fun t d => dibitStep d t) s

/-- `DIBIT d` (R500). It never faults and is never refused by itself: "one next state and one finite event list"
(R716). -/
def execDibit (d : Dibit) (s : State) : Host.Outcome State Fault Refusal := .next (dibitStep d s)

end Sys2Proof.Machine
end

