-- ==== Sys2Proof/Machine/Facade.lean ====
section
/-! DEFINITION. The message framer facade's inputs: BYTE (R650), TIME_HINT (R610) and RESET (R802). -/

namespace Sys2Proof.Machine

/-- `BYTE b`: four DIBIT steps in the order b[7:6], b[5:4], b[3:2], b[1:0] (R650, R220). Its events are those of
the four steps, in order (R650, R710, R223), which in one case are more than R716's three (log entry 13). -/
def execByte (b : Byte) (s : State) : Host.Outcome State Fault Refusal := .next (dibitSteps (byteDibits b) s)

/-- `TIME_HINT t`: `ms <- t` and nothing else; all values are legal, backwards ones too (R610). -/
def execTimeHint (t : Millis) (s : State) : Host.Outcome State Fault Refusal := .next { s with ms := t }

/-- What `RESET` leaves: buffers, register, counter, FSM, trackers, `cur` and `lastSlot` at their reset values; `ms`,
`refused` and the output list as they were. It emits nothing (R802). -/
def resetState (s : State) : State :=
  { s with
    mb := bufReset s.mb
    db := bufReset s.db
    reg := 0
    cnt := 0
    fsm := .searching
    trk0 := Tracker.lost
    trk1 := Tracker.lost
    cur := .primary
    lastSlot := .slot1 }

/-- `RESET` (R802). -/
def execReset (s : State) : Host.Outcome State Fault Refusal := .next (resetState s)

end Sys2Proof.Machine
end

