-- ==== Sys2Proof/Machine/Dispatch.lean ====
section
/-! DEFINITION. One arm per transaction (R301). -/

namespace Sys2Proof.Machine

def exec (i : Instr) (s : State) : Host.Outcome State Fault Refusal :=
  match i with
  | .dibit d => Sys2Proof.Machine.execDibit d s
  | .byte b => Sys2Proof.Machine.execByte b s
  | .timeHint t => Sys2Proof.Machine.execTimeHint t s
  | .reset => Sys2Proof.Machine.execReset s

end Sys2Proof.Machine
end

