-- ==== Sys2Proof/Decode.lean ====
section
/-! DEFINITION. The transaction word (R300 to R303): decode, encode, and the host's numbering of a word's bits. -/

namespace Sys2Proof

/-- Why a word is no transaction (R303). Both are safe: the machine refuses the word (R702). -/
inductive DecodeError where
  /-- `op` is 000, 101, 110 or 111. -/
  | reservedOp
  /-- A bit that rule R302 marks "must be zero" is 1. -/
  | nonzeroField
deriving DecidableEq, Repr

/-- What decoding a word answers. -/
inductive Decoded where
  | txn (i : Instr)
  | error (e : DecodeError)
deriving DecidableEq, Repr

/-- `w[66:64]` (R300). -/
def opField (w : TxnWord) : BitVec 3 := w.extractLsb' 64 3

/-- `w[63:0]` (R300). -/
def dataField (w : TxnWord) : BitVec 64 := w.extractLsb' 0 64

/-- The transaction `i` if the bits that must be zero are zero, else the refusal of rule R303. -/
def requireZero {n : Nat} (mustBeZero : BitVec n) (i : Instr) : Decoded :=
  if mustBeZero = 0 then .txn i else .error .nonzeroField

/-- The op codes of rule R301 with the operand fields of rule R302. Every word has exactly one answer, and the op code
is looked at before the must-be-zero bits (R702). -/
def decode (w : TxnWord) : Decoded :=
  let data := dataField w
  match (opField w).toNat with
  | 1 => requireZero (data.extractLsb' 2 62) (.dibit (data.extractLsb' 0 2))
  | 2 => requireZero (data.extractLsb' 8 56) (.byte (data.extractLsb' 0 8))
  | 3 => .txn (.timeHint data)
  | 4 => requireZero data .reset
  | _ => .error .reservedOp

/-- `op` above `data` (R300). -/
def wordOf (op : BitVec 3) (data : BitVec 64) : TxnWord := op ++ data

/-- The one word of a transaction: its op code, and its operand zero-extended (R301, R302). -/
def encode : Instr → TxnWord
  | .dibit d => wordOf 1 (d.zeroExtend 64)
  | .byte b => wordOf 2 (b.zeroExtend 64)
  | .timeHint t => wordOf 3 t
  | .reset => wordOf 4 0

/-- The instruction of a decoded word, if it is one. -/
def Decoded.instr? : Decoded → Option Instr
  | .txn i => some i
  | .error _ => none

/-- The transaction word whose bits the opcode table numbers from bit 0: bits from `nbits` up are 0, and a word has no
bit above 66 (log entry 7). -/
def tableWord (nbits w : Nat) : TxnWord := BitVec.ofNat 67 (w % 2 ^ nbits)

/-- What the decoder reads from an instruction whose bits are `w`, numbered as `spec/opcode_table.json` numbers them. -/
def decodeTableWord (nbits w : Nat) : Option Instr := (decode (tableWord nbits w)).instr?

end Sys2Proof
end

