-- ==== Sys2Proof/Machine/Port.lean ====
section
/-! DEFINITION. The symbol input port: taking the next transaction and the refusal checks before any effect (R702,
R711). -/

namespace Sys2Proof.Machine

/-- What the port gives a step: it is over, or it runs an instruction at a state. -/
inductive Taken where
  | done (o : Host.Outcome State Fault Refusal)
  | run (i : Instr) (s : State)

/-- The reason code of a word that does not decode (R702, R303). -/
def decodeRefusal : DecodeError → RefusalCode
  | .reservedOp => .reservedOp
  | .nonzeroField => .nonzeroField

/-- `STEP(w)` up to the execution of the transaction: STICKY first, then RESERVED_OP, then NONZERO_FIELD (R702). A
refusal is a next state: the mark is set and the reason is the reply (log entry 6). -/
def checkWord (w : TxnWord) (s : State) : Taken :=
  if s.refused then .done (.next (refuseTransaction .sticky s))
  else
    match decode w with
    | .error e => .done (.next (refuseTransaction (decodeRefusal e) s))
    | .txn i => .run i { s with reply := none }

/-- The next transaction is taken from the input port. An illegal configuration processes none (R11); with nothing at
the port nothing happens (log entry 4). -/
def takeNext (s : State) : Taken :=
  if s.cfg.wellFormed then
    match s.input with
    | [] => .done (.next s)
    | w :: rest => checkWord w { s with input := rest }
  else .done (.refused .illegalConfiguration)

/-- A transaction word arrives at the port, behind those that wait (R706, log entry 3). -/
def State.receiveWord (w : TxnWord) (s : State) : State := { s with input := s.input ++ [w] }

/-- The word becomes the one the next step takes, before those that wait (log entry 3). -/
def State.presentWord (w : TxnWord) (s : State) : State := { s with input := w :: s.input }

end Sys2Proof.Machine
end

