-- ==== Sys2Proof/Machine/Step.lean ====
section
/-! DEFINITION. One step: one transaction, processed to completion (R24, R702). -/

namespace Sys2Proof.Machine

/-- One step of an instance: the next transaction at the port, refused or executed by its rule (R24, R702). -/
def step (s : State) : Host.Outcome State Fault Refusal :=
  match takeNext s with
  | .done o => o
  | .run i t => exec i t

/-- `s` with the transaction of an opcode-table row at its input port, where the next step takes it (log entry 3). -/
def State.withFetchWord (s : State) (nbits w : Nat) : State := s.presentWord (tableWord nbits w)

end Sys2Proof.Machine
end

