-- ==== Sys2Proof/Machine/Assembler.lean ====
section
/-! DEFINITION. Pseudo-transactions and the assembly language of transaction streams (R340 to R342). It feeds the input
port and is no part of a step. -/

namespace Sys2Proof.Machine

/-- The pseudo-transactions of rule R341. -/
inductive Pseudo where
  | receive (d : Dibit)
  | receiveBuffer (t : Millis) (bytes : List Byte)
  | sync (p : PatternId)
  | word48 (w : SyncWord)
deriving DecidableEq, Repr

/-- `WORD48 w`: 24 DIBITs, bits [47:46] first (R341). -/
def expandWord48 (w : SyncWord) : List Instr := (syncWordDibits w).map .dibit

/-- The expansion of rule R341. `SYNC p` has one only for a real pattern. -/
def Pseudo.expand : Pseudo → Option (List Instr)
  | .receive d => some [.dibit d]
  | .receiveBuffer t bytes => some (.timeHint t :: bytes.map .byte)
  | .sync p => (rom p).canonical.map expandWord48
  | .word48 w => some (expandWord48 w)

/-- A line of a program: nothing, real transactions, or a bracket of the repetition directive (R340 to R342). -/
inductive AsmLine where
  | txns (is : List Instr)
  | rept (n : Nat)
  | endr
deriving DecidableEq, Repr

/-- The value of a decimal or hexadecimal digit. -/
def digitValue (base : Nat) (c : Char) : Option Nat :=
  let v :=
    if '0' ≤ c ∧ c ≤ '9' then some (c.toNat - 48)
    else if 'a' ≤ c ∧ c ≤ 'f' then some (c.toNat - 87)
    else if 'A' ≤ c ∧ c ≤ 'F' then some (c.toNat - 55)
    else none
  v.bind (fun n => if n < base then some n else none)

/-- The value of a digit string after the digits already read. -/
def parseDigits (base : Nat) : List Char → Nat → Option Nat
  | [], acc => some acc
  | c :: rest, acc => (digitValue base c).bind (fun v => parseDigits base rest (acc * base + v))

/-- An operand: "decimal, or hexadecimal with a `0x` prefix" (R340). -/
def parseNumber : List Char → Option Nat
  | '0' :: 'x' :: c :: rest => parseDigits 16 (c :: rest) 0
  | c :: rest => parseDigits 10 (c :: rest) 0
  | [] => none

/-- An operand that fits `w` bits (R340). -/
def parseOperand (w : Nat) (token : List Char) : Option (BitVec w) :=
  (parseNumber token).bind (fun n => if n < 2 ^ w then some (BitVec.ofNat w n) else none)

/-- Operands that all parse. -/
def parseOperands (w : Nat) : List (List Char) → Option (List (BitVec w))
  | [] => some []
  | t :: rest => (parseOperand w t).bind (fun v => (parseOperands w rest).map (v :: ·))

/-- White space and the commas between operands separate tokens (log entry 10). -/
def isSeparator (c : Char) : Bool := c == ' ' || c == '\t' || c == ','

/-- The tokens of a line, the one being read last first in `current`. -/
def tokenize : List Char → List Char → List (List Char)
  | [], current => if current.isEmpty then [] else [current.reverse]
  | c :: rest, current =>
    if isSeparator c then
      if current.isEmpty then tokenize rest [] else current.reverse :: tokenize rest []
    else tokenize rest (c :: current)

/-- The line of a pseudo-transaction's expansion. -/
def pseudoLine (p : Option Pseudo) : Option AsmLine := (p.bind Pseudo.expand).map .txns

/-- A line whose first token is a mnemonic (R340), a pseudo-transaction (R341) or a directive (R342). -/
def parseTokens : List (List Char) → Option AsmLine
  | [] => some (.txns [])
  | name :: operands =>
    if name = "DIBIT".toList then
      match operands with
      | [d] => (parseOperand 2 d).map (fun v => .txns [.dibit v])
      | _ => none
    else if name = "BYTE".toList then
      match operands with
      | [b] => (parseOperand 8 b).map (fun v => .txns [.byte v])
      | _ => none
    else if name = "TIME_HINT".toList then
      match operands with
      | [t] => (parseOperand 64 t).map (fun v => .txns [.timeHint v])
      | _ => none
    else if name = "RESET".toList then
      match operands with
      | [] => some (.txns [.reset])
      | _ => none
    else if name = "RECEIVE".toList then
      match operands with
      | [d] => pseudoLine ((parseOperand 2 d).map .receive)
      | _ => none
    else if name = "RECEIVE_BUFFER".toList then
      match operands with
      | t :: bytes =>
        pseudoLine ((parseOperand 64 t).bind (fun v => (parseOperands 8 bytes).map (.receiveBuffer v)))
      | [] => none
    else if name = "SYNC".toList then
      match operands with
      | [p] => pseudoLine (((parseOperand 5 p).bind patternOfCode).map .sync)
      | _ => none
    else if name = "WORD48".toList then
      match operands with
      | [w] => pseudoLine ((parseOperand 48 w).map .word48)
      | _ => none
    else if name = ".rept".toList then
      match operands with
      | [n] => (parseNumber n).map .rept
      | _ => none
    else if name = ".endr".toList then
      match operands with
      | [] => some .endr
      | _ => none
    else none

/-- A line of text; a comment starts with `;` (R340). -/
def parseLine (line : List Char) : Option AsmLine := parseTokens (tokenize (line.takeWhile (· != ';')) [])

/-- The transactions of `n` repetitions (R342). -/
def repeatTxns (n : Nat) (is : List Instr) : List Instr := (List.replicate n is).flatten

/-- The transactions of a list of lines. `outer` holds the repetitions that are open, innermost first, each with the
transactions before it. -/
def assembleLines : List AsmLine → List (Nat × List Instr) → List Instr → Option (List Instr)
  | [], [], acc => some acc
  | [], _ :: _, _ => none
  | .txns is :: rest, outer, acc => assembleLines rest outer (acc ++ is)
  | .rept n :: rest, outer, acc => assembleLines rest ((n, acc) :: outer) []
  | .endr :: rest, (n, before) :: outer, acc => assembleLines rest outer (before ++ repeatTxns n acc)
  | .endr :: _, [], _ => none

/-- All lines parsed, if all parse. -/
def parseLines : List (List Char) → Option (List AsmLine)
  | [] => some []
  | l :: rest => (parseLine l).bind (fun p => (parseLines rest).map (p :: ·))

/-- The transactions of a program of lines (R340 to R342). -/
def assemble (lines : List (List Char)) : Option (List Instr) :=
  (parseLines lines).bind (fun ls => assembleLines ls [] [])

/-- The transaction words of a program, in order, for the input port (R300, R340). -/
def assembleWords (lines : List (List Char)) : Option (List TxnWord) := (assemble lines).map (·.map encode)

end Sys2Proof.Machine
end

