-- ==== Sys2Proof/Safety.lean ====
section
/-! DEFINITION. What a sound run is: the invariants of rule R118, the accounting of rule R551 and the events of a step. -/

namespace Sys2Proof.Machine

/-- Rule R118 (h) for one tracker: `err ≤ 24`, and `err = 0` for UNKNOWN and for a voice continuation. -/
def Tracker.errorsBounded (t : Tracker) : Prop :=
  t.err.toNat ≤ 24 ∧ (t.pat = .unknown ∨ t.pat.isContinuation = true → t.err = 0)

/-- How many of the newest dibits both buffers have received since the last fire or boundary, at most 54. -/
def State.shared (s : State) : Nat := min s.cnt.toNat delayDibits

/-- The invariants of rule R118 between transactions, for an instance with a legal configuration (R11). Clause (e)
follows from (b) and (c). Clauses (f) and (g) speak of the dibits received since reset and are stated over streams; what
they leave in one state while synchronized is `delayAgrees` (the model's own strengthening). -/
structure State.Inv (s : State) : Prop where
  /-- The instance exists (R11). -/
  configLegal : s.cfg.wellFormed = true
  /-- (a) `reg = pack(mb[66..89])` while searching. -/
  searchRegister : s.fsm = .searching → s.reg = syncFieldValue s.mb
  /-- (a) `db = mb[90..143]` while searching. -/
  searchDelay : s.fsm = .searching → s.db.slots = s.mb.slots.drop 90
  /-- (b) Both trackers are UNKNOWN while searching. -/
  searchTrackers : s.fsm = .searching → s.trk0.pat = .unknown ∧ s.trk1.pat = .unknown
  /-- (c) A tracker is synchronized while the framer is. -/
  syncTracker : s.fsm = .synchronized → s.trk0.pat ≠ .unknown ∨ s.trk1.pat ≠ .unknown
  /-- (c) `cnt ≤ 143` while synchronized. -/
  syncCount : s.fsm = .synchronized → s.cnt.toNat ≤ 143
  /-- (d) `cnt ≤ 4944` while searching. -/
  searchCount : s.fsm = .searching → s.cnt.toNat ≤ 4944
  /-- The dibits received since the last fire or boundary stand alike at the new ends of both buffers (from (f), (g)). -/
  delayAgrees : s.fsm = .synchronized → s.db.slots.drop (54 - s.shared) = s.mb.slots.drop (144 - s.shared)
  /-- (h) for the primary tracker. -/
  primaryErrors : s.trk0.errorsBounded
  /-- (h) for the secondary tracker. -/
  secondaryErrors : s.trk1.errorsBounded

/-- The dibits an event accounts for: 144 for a BURST, `bits/2` for a SYNC_LOSS (R551). -/
def Event.dibits : Event → Nat
  | .burst _ => 144
  | .syncLoss bits _ => bits.toNat / 2
  | .pllCorrect _ => 0

/-- `SB + SL` of an event list (R551). -/
def eventDibits (es : List Event) : Nat := (es.map Event.dibits).sum

/-- `SB + SL + S.cnt` over the events at the ports (R551). -/
def State.accounted (s : State) : Nat := eventDibits s.out + s.cnt.toNat

/-- The events of `t` that `s` had not yet emitted. -/
def eventsSince (s t : State) : List Event := t.out.drop s.out.length

/-- The milliseconds by which an event advances the timebase (R603, R611). -/
def Event.advance : Event → Millis
  | .burst _ => 0
  | .syncLoss bits _ => BitVec.ofNat 64 (roundMillis bits.toNat)
  | .pllCorrect _ => 0

/-- The sum of the advances of an event list, modulo 2^64 (R611). -/
def advances (es : List Event) : Millis := (es.map Event.advance).sum

/-- Is the event a BURST? -/
def Event.isBurst : Event → Bool
  | .burst _ => true
  | .syncLoss _ _ => false
  | .pllCorrect _ => false

/-- Is the event a PLL_CORRECT? -/
def Event.isPll : Event → Bool
  | .burst _ => false
  | .syncLoss _ _ => false
  | .pllCorrect _ => true

/-- What rule R552 says of a burst, by its lock and its pattern. -/
def Burst.sound (b : Burst) : Prop :=
  (b.lock = .normal ∧ b.sync.isReal = true →
    ∃ c, (rom b.sync).canonical = some c ∧ hamming (burstSyncField b.bits) c = b.errors.toNat) ∧
  (b.lock ≠ .normal → (rom b.sync).canonical = some (burstSyncField b.bits) ∧ b.errors = 0) ∧
  (b.sync.isReal = false → b.lock = .normal ∧ b.errors = 0)

end Sys2Proof.Machine
end

