-- ==== Sys2Proof/Certificates/Slice0/Obligations.lean ====
section
/-! DEFINITION. The statements about the model. `OBLIGATIONS.json` lists them with the rules they rest on. -/

open Sys2Proof Sys2Proof.Machine

/-! ### Encoding -/

/-- Decode and encode agree on every transaction (R300 to R302; the word format is the spec's decision D2). -/
def Obligations.TransactionsRoundTrip : Prop :=
  ∀ i : Instr, i.wellFormed = true → decode (encode i) = .txn i

/-- A word that decodes is the encoding of what it decodes to: no bit of it is dropped (decision D2). -/
def Obligations.EveryLegalWordIsAnEncoding : Prop :=
  ∀ (w : TxnWord) (i : Instr), decode w = .txn i → encode i = w

/-- The decoder follows the opcode table's four rows, each given by its mask, its match and its operand bits. -/
def Obligations.DecodeFollowsTheOpcodeTable : Prop :=
  ∀ w : TxnWord,
    (∀ d : Dibit, decode w = .txn (.dibit d) ↔
      w &&& 0x7fffffffffffffffc#67 = 0x10000000000000000#67 ∧ w.extractLsb' 0 2 = d) ∧
    (∀ b : Byte, decode w = .txn (.byte b) ↔
      w &&& 0x7ffffffffffffff00#67 = 0x20000000000000000#67 ∧ w.extractLsb' 0 8 = b) ∧
    (∀ t : Millis, decode w = .txn (.timeHint t) ↔
      w &&& 0x70000000000000000#67 = 0x30000000000000000#67 ∧ w.extractLsb' 0 64 = t) ∧
    (decode w = .txn .reset ↔ w &&& 0x7ffffffffffffffff#67 = 0x40000000000000000#67)

/-- Which words are refused, and under which name; the numbers of the four reasons (R303, R702; decision D3). -/
def Obligations.IllegalWordsAreRefusedByName : Prop :=
  ∀ w : TxnWord,
    (decode w = .error .reservedOp ↔
      w.extractLsb' 64 3 = 0#3 ∨ w.extractLsb' 64 3 = 5#3 ∨ w.extractLsb' 64 3 = 6#3 ∨ w.extractLsb' 64 3 = 7#3) ∧
    (decode w = .error .nonzeroField ↔
      (w.extractLsb' 64 3 = 1#3 ∧ w.extractLsb' 2 62 ≠ 0#62) ∨
      (w.extractLsb' 64 3 = 2#3 ∧ w.extractLsb' 8 56 ≠ 0#56) ∨
      (w.extractLsb' 64 3 = 4#3 ∧ w.extractLsb' 0 64 ≠ 0#64)) ∧
    ([RefusalCode.sticky, .reservedOp, .nonzeroField, .outOfRange].map refusalNumber = [1, 2, 3, 4])

/-- Words written out from the encoding, one of each transaction and one of each refusal (decisions D2, D3). -/
def Obligations.WrittenOutWordsDecode : Prop :=
  decode 0x10000000000000003#67 = .txn (.dibit 3) ∧
  decode 0x200000000000000D8#67 = .txn (.byte 0xD8) ∧
  decode 0x300000000000003E8#67 = .txn (.timeHint 1000) ∧
  decode 0x40000000000000000#67 = .txn .reset ∧
  decode 0x00000000000000000#67 = .error .reservedOp ∧
  decode 0x10000000000000004#67 = .error .nonzeroField

/-! ### Steps, refusals and construction -/

/-- A step takes the word at the port, and runs the transaction it decodes to on the state without that word. The reply
of an executed transaction is no refusal (the model's port fields: log entries 3 and 6). -/
def Obligations.StepRunsTheDecodedTransaction : Prop :=
  ∀ (s : State) (w : TxnWord) (rest : List TxnWord) (i : Instr),
    s.cfg.wellFormed = true → s.refused = false → s.input = w :: rest → decode w = .txn i →
    step s = exec i { s with input := rest, reply := none }

/-- A word that does not decode sets the mark and changes nothing else but the port (decision D3; the reply is the
model's field, log entry 6). -/
def Obligations.RefusedWordOnlySetsTheMark : Prop :=
  ∀ (s : State) (w : TxnWord) (rest : List TxnWord),
    s.cfg.wellFormed = true → s.refused = false → s.input = w :: rest →
    (decode w = .error .reservedOp →
      step s = .next { s with input := rest, refused := true, reply := some .reservedOp }) ∧
    (decode w = .error .nonzeroField →
      step s = .next { s with input := rest, refused := true, reply := some .nonzeroField })

/-- Once the mark is set, any number of steps refuses every word with STICKY and changes nothing but the port
(decision D3; log entry 6). -/
def Obligations.RefusalIsSticky : Prop :=
  ∀ (n : Nat) (s : State), s.cfg.wellFormed = true → s.refused = true →
    ∃ r, Sys2Proof.core.run n s = .next { s with input := s.input.drop n, reply := r } ∧
      (0 < n → s.input ≠ [] → r = some .sticky)

/-- For every legal configuration every state has a next state (derived by the spec from R702, R710 and R712); with
nothing at the port it is the same state (the model's choice, log entry 4). -/
def Obligations.EveryInstanceStateSteps : Prop :=
  ∀ s : State, s.cfg.wellFormed = true →
    (∃ t, step s = .next t) ∧ (s.input = [] → step s = .next s)

/-- An illegal configuration has no instance and a legal one has the power-on instance (R11, R800); a threshold of 0 or
above 24, and a missing listener, are illegal (R10, R11). That a step of a state with an illegal configuration is refused
by name is the model's reading of "no transaction is ever processed under it" (DEDUCED, log entry 15). -/
def Obligations.IllegalConfigurationHasNoInstance : Prop :=
  (∀ c : Config, c.wellFormed = false → State.construct c = none) ∧
  (∀ c : Config, c.wellFormed = true → State.construct c = some (State.powerOn c)) ∧
  (∀ s : State, s.cfg.wellFormed = false → step s = .refused .illegalConfiguration) ∧
  (∀ c : Config, c.searchThreshold = 0 ∨ 24 < c.searchThreshold ∨ c.syncThreshold = 0 ∨ 24 < c.syncThreshold ∨
    c.listenerPresent = false → c.wellFormed = false)

/-- The legal configurations are those of R10's table: both thresholds in 1..24, a listener, and a permutation of ids
0..9 with ids 0..3 before ids 4..7 and before id 9 (decisions D5, D10, D27). -/
def Obligations.LegalConfigurationsAreThoseOfTheTable : Prop :=
  ∀ c : Config, c.wellFormed = true ↔
    (1 ≤ c.searchThreshold ∧ c.searchThreshold ≤ 24) ∧ (1 ≤ c.syncThreshold ∧ c.syncThreshold ≤ 24) ∧
    c.listenerPresent = true ∧ c.tableOrder.Perm realPatterns ∧
    ∀ x ∈ [PatternId.bsData, .bsVoice, .msData, .msVoice],
      ∀ y ∈ [PatternId.directD0, .directD1, .directV0, .directV1, .reserved],
        c.tableOrder.idxOf x < c.tableOrder.idxOf y

/-- What a step never does: it keeps the configuration, clears no refusal mark and takes back no event (R10's "no
transaction writes it"; R110's "nothing clears it"; R230). -/
def Obligations.StepKeepsConfigurationMarkAndEvents : Prop :=
  ∀ s t : State, step s = .next t →
    t.cfg = s.cfg ∧ (s.refused = true → t.refused = true) ∧ ∃ es, t.out = s.out ++ es

/-! ### TIME_HINT, RESET and BYTE -/

/-- `TIME_HINT t` writes `ms` and nothing else, for every `t` and in every state; its word is op 011 with `t` as data;
at the port it is refused only when the mark is set (R610). The port's fields `input` and `reply` are the model's own
(DESIGN CHOICE, log entries 3 and 6). -/
def Obligations.TimeHintWritesTheClockOnly : Prop :=
  ∀ (t : Millis) (s : State),
    exec (.timeHint t) s = .next { s with ms := t } ∧
    encode (.timeHint t) = 3#3 ++ t ∧ decode (3#3 ++ t) = .txn (.timeHint t) ∧
    (∀ rest, s.cfg.wellFormed = true → s.refused = false → s.input = (3#3 ++ t) :: rest →
      step s = .next { s with ms := t, input := rest, reply := none })

/-- The power-on values, and `RESET`: it leaves the power-on state but for `ms`, the refusal mark and what stands at the
ports, and emits nothing (decisions D19, D20 and D21). -/
def Obligations.ResetGivesPowerOnButForTheClock : Prop :=
  (∀ c : Config, let s := State.powerOn c
    s.mb.slots = List.replicate 144 0 ∧ s.db.slots = List.replicate 54 0 ∧ s.reg = 0 ∧ s.cnt = 0 ∧
    s.fsm = .searching ∧ s.trk0 = ⟨.unknown, 0⟩ ∧ s.trk1 = ⟨.unknown, 0⟩ ∧ s.cur = .primary ∧
    s.lastSlot = .slot1 ∧ s.ms = 0 ∧ s.refused = false ∧ s.cfg = c) ∧
  ∀ s : State,
    exec .reset s = .next { State.powerOn s.cfg with
      ms := s.ms, refused := s.refused, input := s.input, out := s.out, reply := s.reply }

/-- `BYTE b` is four DIBIT steps, b[7:6] first, and always completes; its word is op 010 with `b` in data[7:0]; at the
port it is refused only when the mark is set (R650). The port's fields `input` and `reply` are the model's own (DESIGN
CHOICE, log entries 3 and 6). -/
def Obligations.ByteIsFourDibits : Prop :=
  ∀ (b : Byte) (s : State),
    (∃ t1 t2 t3 t4,
      exec (.dibit (b.extractLsb' 6 2)) s = .next t1 ∧ exec (.dibit (b.extractLsb' 4 2)) t1 = .next t2 ∧
      exec (.dibit (b.extractLsb' 2 2)) t2 = .next t3 ∧ exec (.dibit (b.extractLsb' 0 2)) t3 = .next t4 ∧
      exec (.byte b) s = .next t4) ∧
    encode (.byte b) = 2#3 ++ 0#56 ++ b ∧ decode (2#3 ++ 0#56 ++ b) = .txn (.byte b) ∧
    (∀ rest, s.cfg.wellFormed = true → s.refused = false → s.input = (2#3 ++ 0#56 ++ b) :: rest →
      step s = exec (.byte b) { s with input := rest, reply := none })

/-- One BYTE transaction at the port is four DIBIT transactions at the port, in every state (derived by the spec from
R220 and R650). -/
def Obligations.ByteTransactionEqualsFourDibitTransactions : Prop :=
  ∀ (b : Byte) (rest : List TxnWord) (s : State),
    Sys2Proof.core.run 1 { s with input := encode (.byte b) :: rest } =
      Sys2Proof.core.run 4 { s with input := (byteDibits b).map (fun d => encode (.dibit d)) ++ rest }

/-! ### DIBIT: the rows of the FSM table -/

/-- Synchronized, before the boundary: the dibit is counted and put in both buffers, and nothing else changes, the
matcher register among it (R520, R414). -/
def Obligations.DibitInsideASynchronizedSlot : Prop :=
  ∀ (d : Dibit) (s : State), s.fsm = .synchronized → s.cnt.toNat + 1 < 144 →
    exec (.dibit d) s = .next { s with cnt := s.cnt + 1, mb := bufPut s.mb d, db := bufPut s.db d }

/-- Searching, no match, threshold not passed: the register also shifts in the dibit that fell off the delay line, and
nothing else changes (R510, R520). -/
def Obligations.DibitSearchingWithoutMatch : Prop :=
  ∀ (d : Dibit) (s : State), s.fsm = .searching → s.cnt.toNat + 1 ≤ 4944 →
    searchCompare s.cfg.tableOrder (shiftRegister s.reg (bufOldest s.db)) s.cfg.searchThreshold = none →
    exec (.dibit d) s = .next { s with
      cnt := s.cnt + 1, mb := bufPut s.mb d, db := bufPut s.db d, reg := shiftRegister s.reg (bufOldest s.db) }

/-- Searching, no match, the 4945th counted dibit: a sync-loss of 9600 bits stamped with the time before it, one second
on the clock, and 145 dibits still counted (R511; stamp and rounding are decisions D17 and D18). -/
def Obligations.SyncLossThreshold : Prop :=
  ∀ (d : Dibit) (s : State), s.fsm = .searching → s.cnt.toNat + 1 = 4945 →
    searchCompare s.cfg.tableOrder (shiftRegister s.reg (bufOldest s.db)) s.cfg.searchThreshold = none →
    exec (.dibit d) s = .next { s with
      cnt := 145, mb := bufPut s.mb d, db := bufPut s.db d, reg := shiftRegister s.reg (bufOldest s.db),
      ms := s.ms + 1000, out := s.out ++ [.syncLoss 9600 s.ms] }

/-- A matcher fire, whole: the current tracker takes the pattern and is not toggled, a rotated lock commands the PLL if
there is one and repairs the message buffer, dibits beyond 144 are padded, one burst is emitted, and the framer is
synchronized (R530, R531, R540, R541; the repair without a PLL is decision D14, no toggle is D13, the event order
D25). -/
def Obligations.MatcherFire : Prop :=
  ∀ (d : Dibit) (s : State) (m : Match), s.fsm = .searching → s.cnt.toNat + 1 ≤ 4945 →
    searchCompare s.cfg.tableOrder (shiftRegister s.reg (bufOldest s.db)) s.cfg.searchThreshold = some m →
    let received := s.cnt.toNat + 1
    let tracker : Tracker := ⟨m.id, BitVec.ofNat 8 m.errors⟩
    let buffer := bufRotate (bufPut s.mb d) (rotDibit (inverseLock m.lock))
    let bits := burstValue buffer
    let slot := slotFor s.cfg m.id bits s.lastSlot
    let lost := 2 * (received - 144)
    let time := if 144 < received then s.ms + BitVec.ofNat 64 (roundMillis lost) else s.ms
    let command : List Event :=
      if s.cfg.pllPresent then
        match m.lock with
        | .normal => []
        | .plus90 => [.pllCorrect (-1200)]
        | .minus90 => [.pllCorrect 1200]
        | .inverted => [.pllCorrect 2400]
      else []
    let padding : List Event := if 144 < received then [.syncLoss (BitVec.ofNat 32 lost) s.ms] else []
    exec (.dibit d) s = .next { s with
      cnt := 0, mb := buffer, db := bufPut s.db d, reg := shiftRegister s.reg (bufOldest s.db),
      fsm := .synchronized,
      trk0 := if s.cur = .primary then tracker else s.trk0,
      trk1 := if s.cur = .secondary then tracker else s.trk1,
      lastSlot := slot, ms := time,
      out := s.out ++ command ++ padding ++
        [.burst ⟨bits, m.id, m.lock, BitVec.ofNat 8 m.errors, slot, time⟩] }

/-- The boundary when the current tracker stays synchronized, by a match of the sync field or by the voice chain: its
burst, and the toggle (R521, R522, R524, R451, R452). -/
def Obligations.BoundaryEmitsTheTrackersBurst : Prop :=
  ∀ (d : Dibit) (s : State) (t : Tracker), s.fsm = .synchronized → s.cnt.toNat + 1 = 144 →
    let buffer := bufPut s.mb d
    let found := syncCompare s.cfg.tableOrder (syncFieldValue buffer) s.cfg.syncThreshold
    (∃ m, found = some m ∧ t = ⟨m.id, BitVec.ofNat 8 m.errors⟩) ∨
      (found = none ∧ nextVoice s.current.pat = some t.pat ∧ t.err = 0) →
    let bits := burstValue buffer
    let slot := slotFor s.cfg t.pat bits s.lastSlot
    exec (.dibit d) s = .next { s with
      cnt := 0, mb := buffer, db := bufPut s.db d,
      trk0 := if s.cur = .primary then t else s.trk0,
      trk1 := if s.cur = .secondary then t else s.trk1,
      cur := s.cur.other, lastSlot := slot,
      out := s.out ++ [.burst ⟨bits, t.pat, .normal, t.err, slot, s.ms⟩] }

/-- The boundary when the current tracker is lost and the other is synchronized: a placeholder burst, and the toggle
(R521, R522, R524; the error count of a lost tracker is decision D38). -/
def Obligations.BoundaryPlaceholder : Prop :=
  ∀ (d : Dibit) (s : State), s.fsm = .synchronized → s.cnt.toNat + 1 = 144 →
    let buffer := bufPut s.mb d
    syncCompare s.cfg.tableOrder (syncFieldValue buffer) s.cfg.syncThreshold = none →
    nextVoice s.current.pat = none → s.otherTracker.pat ≠ .unknown →
    let bits := burstValue buffer
    let slot := s.lastSlot.toggle
    exec (.dibit d) s = .next { s with
      cnt := 0, mb := buffer, db := bufPut s.db d,
      trk0 := if s.cur = .primary then ⟨.unknown, 0⟩ else s.trk0,
      trk1 := if s.cur = .secondary then ⟨.unknown, 0⟩ else s.trk1,
      cur := s.cur.other, lastSlot := slot,
      out := s.out ++ [.burst ⟨bits, .unknown, .normal, 0, slot, s.ms⟩] }

/-- The boundary when both trackers are lost: searching again, the register loaded with the sync field just examined, no
event, the counter left at 144, and the toggle (R521, R523, R524). -/
def Obligations.BoundaryReturnsToSearching : Prop :=
  ∀ (d : Dibit) (s : State), s.fsm = .synchronized → s.cnt.toNat + 1 = 144 →
    let buffer := bufPut s.mb d
    syncCompare s.cfg.tableOrder (syncFieldValue buffer) s.cfg.syncThreshold = none →
    nextVoice s.current.pat = none → s.otherTracker.pat = .unknown →
    exec (.dibit d) s = .next { s with
      cnt := 144, mb := buffer, db := bufPut s.db d, reg := syncFieldValue buffer, fsm := .searching,
      trk0 := if s.cur = .primary then ⟨.unknown, 0⟩ else s.trk0,
      trk1 := if s.cur = .secondary then ⟨.unknown, 0⟩ else s.trk1,
      cur := s.cur.other }

/-! ### The comparators, the ROM and the rotations -/

/-- `SEARCH_COMPARE`: the first pattern in table order that matches softly, or exactly under a rotation, wins, its soft
canonical test first; without a match there is none (R411). -/
def Obligations.SearchCompareTakesTheFirstMatch : Prop :=
  ∀ (order : List PatternId) (r : SyncWord) (threshold : Nat),
    let hits := fun (id : PatternId) => ∃ c, (rom id).canonical = some c ∧
      (hamming r c ≤ threshold ∨ romWord .plus90 id = some r ∨ romWord .minus90 id = some r ∨
        romWord .inverted id = some r)
    (searchCompare order r threshold = none ↔ ∀ id ∈ order, ¬ hits id) ∧
    (∀ m, searchCompare order r threshold = some m →
      (∃ before after, order = before ++ m.id :: after ∧ ∀ id ∈ before, ¬ hits id) ∧
      ∃ c, (rom m.id).canonical = some c ∧
        ((m.lock = .normal ∧ m.errors = hamming r c ∧ m.errors ≤ threshold) ∨
         (m.lock ≠ .normal ∧ m.errors = 0 ∧ threshold < hamming r c ∧ romWord m.lock m.id = some r)))

/-- `SYNC_COMPARE`: an exact match anywhere in the table comes before every soft match, and then the first soft match in
table order wins; rotations are never tested (exact before soft is decision D11). -/
def Obligations.SyncCompareIsExactThenSoft : Prop :=
  ∀ (order : List PatternId) (f : SyncWord) (threshold : Nat),
    (syncCompare order f threshold = none ↔
      ∀ id ∈ order, ∀ c, (rom id).canonical = some c → c ≠ f ∧ threshold < hamming f c) ∧
    (∀ m, syncCompare order f threshold = some m → m.lock = .normal ∧
      ∃ c before after, (rom m.id).canonical = some c ∧ m.errors = hamming f c ∧ order = before ++ m.id :: after ∧
        (c = f ∨
          (m.errors ≤ threshold ∧ (∀ id ∈ order, (rom id).canonical ≠ some f) ∧
            ∀ id ∈ before, ∀ p, (rom id).canonical = some p → threshold < hamming f p)))

/-- For thresholds up to 23, a register that holds a rotated constant is classified with its pattern and rotation, under
every legal table order (derived by the spec, R421; the constants are UNVERIFIED, log entry 11). -/
def Obligations.RotatedConstantsAreClassified : Prop :=
  ∀ (order : List PatternId) (threshold : Nat) (id : PatternId) (lock : CarrierLock) (c : SyncWord),
    orderIsPermutation order = true → threshold ≤ 23 → lock ≠ .normal → (rom id).canonical = some c →
    searchCompare order (rotWord lock c) threshold = some ⟨id, lock, 0⟩

/-- For thresholds up to 4 the table order cannot change what the search comparator answers (derived by the spec, R422;
the constants are UNVERIFIED, log entry 11). -/
def Obligations.TableOrderIsIrrelevantUpToFour : Prop :=
  ∀ (order order' : List PatternId) (r : SyncWord) (threshold : Nat),
    orderIsPermutation order = true → orderIsPermutation order' = true → threshold ≤ 4 →
    searchCompare order r threshold = searchCompare order' r threshold

/-- A register of zeros matches nothing at any legal threshold (derived by the spec, R420; log entry 11). -/
def Obligations.ZeroRegisterNeverMatches : Prop :=
  ∀ (order : List PatternId) (threshold : Nat), threshold ≤ 24 → searchCompare order 0 threshold = none

/-- The tables of R312 and R314, row by row: id, code, canonical constant, hasCACH, isData, isVoice and direct slot, and
the constants rotated by +90, -90 and 180 degrees; the codes 21..31 are no pattern; the lock codes of R320 and the slot
codes of R330 (decisions D4 and D9; the constants and the slot mapping are UNVERIFIED, log entry 11; the rotated
constants follow from decision D7). -/
def Obligations.RomHoldsThePatternTable : Prop :=
  let row := fun (id : PatternId) (code : BitVec 5) (canonical : Option SyncWord) (hasCach isData isVoice : Bool)
      (slot : Option Slot) =>
    patternCode id = code ∧ patternOfCode code = some id ∧ (rom id).id = id ∧ (rom id).canonical = canonical ∧
    (rom id).hasCach = hasCach ∧ (rom id).isData = isData ∧ (rom id).isVoice = isVoice ∧ directSlot id = slot
  let rotated := fun (id : PatternId) (plus90 minus90 inverted : SyncWord) =>
    (rom id).plus90 = some plus90 ∧ (rom id).minus90 = some minus90 ∧ (rom id).inverted = some inverted
  row .bsData 0 (some 0xDFF57D75DF5D) true true false none ∧
  row .bsVoice 1 (some 0x755FD7DF75F7) true false true none ∧
  row .msData 2 (some 0xD5D7F77FD757) false true false none ∧
  row .msVoice 3 (some 0x7F7D5DD57DFD) false false true none ∧
  row .directD0 4 (some 0xF7FDD5DDFD55) false true false (some .slot0) ∧
  row .directD1 5 (some 0xD7557F5FF7F5) false true false (some .slot1) ∧
  row .directV0 6 (some 0x5D577F7757FF) false false true (some .slot0) ∧
  row .directV1 7 (some 0x7DFFD5F55D5F) false false true (some .slot1) ∧
  row .msReverse 8 (some 0x77D55F7DFD77) false false false none ∧
  row .reserved 9 (some 0xDD7FF5D757DD) false false false none ∧
  row .voiceBBs 10 none true false true none ∧
  row .voiceCBs 11 none true false true none ∧
  row .voiceDBs 12 none true false true none ∧
  row .voiceEBs 13 none true false true none ∧
  row .voiceFBs 14 none true false true none ∧
  row .voiceBMs 15 none false false true none ∧
  row .voiceCMs 16 none false false true none ∧
  row .voiceDMs 17 none false false true none ∧
  row .voiceEMs 18 none false false true none ∧
  row .voiceFMs 19 none false false true none ∧
  row .unknown 20 none false false false none ∧
  rotated .bsData 0xBAAFEBEFBAFB 0x455014104504 0x200A828A20A2 ∧
  rotated .bsVoice 0xEFFABEBAEFAE 0x100541451051 0x8AA028208A08 ∧
  rotated .msData 0xBFBEAEEABEFE 0x404151154101 0x2A28088028A8 ∧
  rotated .msVoice 0xEAEBFBBFEBAB 0x151404401454 0x8082A22A8202 ∧
  rotated .directD0 0xAEABBFBBABFF 0x515440445400 0x08022A2202AA ∧
  rotated .directD1 0xBEFFEAFAAEAF 0x410015055150 0x28AA80A0080A ∧
  rotated .directV0 0xFBFEEAEEFEAA 0x040115110155 0xA2A88088A800 ∧
  rotated .directV1 0xEBAABFAFFBFA 0x145540500405 0x82002A0AA2A0 ∧
  rotated .msReverse 0xEEBFFAEBABEE 0x114005145411 0x882AA0820288 ∧
  rotated .reserved 0xBBEAAFBEFEBB 0x441550410144 0x22800A28A822 ∧
  (∀ id, id.isReal = false → (rom id).plus90 = none ∧ (rom id).minus90 = none ∧ (rom id).inverted = none) ∧
  (∀ code : BitVec 5, 21 ≤ code.toNat → patternOfCode code = none) ∧
  lockCode .normal = 0 ∧ lockCode .plus90 = 1 ∧ lockCode .minus90 = 2 ∧ lockCode .inverted = 3 ∧
  slotCode .slot0 = 0 ∧ slotCode .slot1 = 1

/-- The ROM's constants: the stored rotated constants are the rotations of the canonical ones, and exactly ids 0..9 have
any; canonical constants are at least 10 apart, and every rotated constant is at least 24 from every canonical one; the
distance of two words is the number of bits in which they differ (derived by the spec, R314, R420, R421, R422; log entry
11). -/
def Obligations.RomConstantsAreConsistent : Prop :=
  (∀ id ∈ allPatternIds, ∀ lock ∈ [CarrierLock.plus90, .minus90, .inverted],
    romWord lock id = (rom id).canonical.map (rotWord lock) ∧ ((rom id).canonical.isSome = id.isReal)) ∧
  (∀ a ∈ realPatterns, ∀ b ∈ realPatterns, a ≠ b →
    (rom a).canonical.all (fun x => (rom b).canonical.all (fun y => decide (10 ≤ hamming x y))) = true) ∧
  (∀ a ∈ realPatterns, ∀ b ∈ realPatterns, ∀ lock ∈ [CarrierLock.plus90, .minus90, .inverted],
    (romWord lock a).all (fun x => (rom b).canonical.all (fun y => decide (24 ≤ hamming x y))) = true) ∧
  (∀ x y : SyncWord, hamming x y = ((List.range 48).filter (fun k => x.getLsbD k != y.getLsbD k)).length)

/-- `lookup` inverts the ROM: it answers a pattern and a lock exactly for their constant, and (UNKNOWN, NORMAL) for every
word that is no constant (R400). -/
def Obligations.LookupInvertsTheRom : Prop :=
  ∀ v : SyncWord,
    (∀ (id : PatternId) (lock : CarrierLock), id ≠ .unknown →
      (lookup v = (id, lock) ↔ romWord lock id = some v)) ∧
    ((∀ (id : PatternId) (lock : CarrierLock), romWord lock id ≠ some v) → lookup v = (.unknown, .normal))

/-- The other three lookups, under every legal configuration: the ten canonical values in table order, and the ids 1, 3,
6, 7 and the ids 0, 1 in table order (R400; the contents of the last two are decision D9). -/
def Obligations.PatternListsFollowTheTable : Prop :=
  ∀ c : Config, c.wellFormed = true →
    (allPatterns c).length = 10 ∧
    (allPatterns c).map some = c.tableOrder.map (fun id => (rom id).canonical) ∧
    voicePatterns c = c.tableOrder.filter (fun id =>
      id = .bsVoice ∨ id = .msVoice ∨ id = .directV0 ∨ id = .directV1) ∧
    cachPatterns c = c.tableOrder.filter (fun id => id = .bsData ∨ id = .bsVoice)

/-- The rotations: the permutation table of R401, row by row, and `rot_L` of a word as the permutation of each of its 24
dibits in place; rotating a word and then rotating it back gives the word, and two quarter turns are a half turn, for
every 48-bit word (R401; R402 and R403 are derived by the spec; the permutation is decision D7). -/
def Obligations.RotationsOfWords : Prop :=
  ((List.map (rotDibit .plus90) [0, 1, 2, 3] = [1, 3, 0, 2]) ∧ (List.map (rotDibit .minus90) [0, 1, 2, 3] = [2, 0, 3, 1]) ∧
    (List.map (rotDibit .inverted) [0, 1, 2, 3] = [3, 2, 1, 0]) ∧ (∀ d, rotDibit .normal d = d)) ∧
  (∀ (lock : CarrierLock) (w : SyncWord), ∀ k < 24,
    (rotWord lock w).extractLsb' (2 * k) 2 = rotDibit lock (w.extractLsb' (2 * k) 2)) ∧
  (inverseLock .plus90 = .minus90 ∧ inverseLock .minus90 = .plus90 ∧ inverseLock .inverted = .inverted) ∧
  (∀ (lock : CarrierLock) (w : SyncWord), rotWord (inverseLock lock) (rotWord lock w) = w) ∧
  (∀ w : SyncWord, rotWord .plus90 (rotWord .plus90 w) = rotWord .inverted w) ∧
  (∀ w : SyncWord, rotWord .inverted w = w ^^^ 0xFFFFFFFFFFFF#48)

/-! ### Buffers and bursts -/

/-- `put(d)`: every dibit moves one place towards the oldest, the oldest is discarded and `d` is the newest (R201). -/
def Obligations.PutDiscardsTheOldest : Prop :=
  ∀ (n : Nat) (buf : DibitDelayBuffer n) (d : Dibit), 0 < n →
    (∀ i, i + 1 < n → bufGet (bufPut buf d) i = bufGet buf (i + 1)) ∧ bufGet (bufPut buf d) (n - 1) = d

/-- `get_and_put` puts, and returns the old `buf[0]`: the dibit put N operations earlier, or the reset value 0 where fewer
than N dibits have been put since the last reset (R202). -/
def Obligations.DelayLineReturnsTheDibitPutNEarlier : Prop :=
  ∀ (n : Nat), 0 < n →
    (∀ (buf : DibitDelayBuffer n) (d : Dibit), bufGetAndPut buf d = (bufGet buf 0, bufPut buf d)) ∧
    ∀ (start : DibitDelayBuffer n) (ds : List Dibit) (d : Dibit),
      (bufGetAndPut (ds.foldl bufPut (bufReset start)) d).1 =
        if ds.length < n then 0 else ds.getD (ds.length - n) 0

/-- `window` answers the dibits of the slice in order, and only a slice inside the buffer; any other call is refused
(R203). `pack_bits` packs the window (R204). -/
def Obligations.WindowsOutsideAreRefused : Prop :=
  ∀ (n : Nat) (buf : DibitDelayBuffer n) (offset length : Nat),
    (offset + length ≤ n → ∃ ds, bufWindow buf offset length = .ok ds ∧ ds.length = length ∧
      (∀ i < length, ds[i]? = some (bufGet buf (offset + i))) ∧
      bufPackBits buf offset length = .ok (pack (2 * length) ds)) ∧
    (n < offset + length → (∃ code, bufWindow buf offset length = .error code) ∧
      ∃ code, bufPackBits buf offset length = .error code)

/-- `pack(s)` puts the first dibit at the most significant end: dibit `i` of `n` stands in bits
[2n−1−2i : 2n−2−2i] (R21). -/
def Obligations.PackPutsTheFirstDibitHighest : Prop :=
  ∀ (ds : List Dibit) (i : Nat), i < ds.length →
    (pack (2 * ds.length) ds).extractLsb' (2 * ds.length - 2 - 2 * i) 2 = ds.getD i 0

/-- A burst's value and its 36 bytes: `mb[i]` in `B[287−2i : 286−2i]`; byte `j` is `B[287−8j : 280−8j]`, which is
`pack(mb[4j .. 4j+3])`, with `mb[4j]` in its bits [7:6] (R211). -/
def Obligations.BurstBytesArePackedInDibitOrder : Prop :=
  ∀ mb : DibitDelayBuffer 144,
    (∀ i < 144, (burstValue mb).extractLsb' (286 - 2 * i) 2 = bufGet mb i) ∧
    (burstBytes (burstValue mb)).length = 36 ∧
    ∀ j < 36, (burstBytes (burstValue mb))[j]? = some ((burstValue mb).extractLsb' (280 - 8 * j) 8) ∧
      (burstValue mb).extractLsb' (280 - 8 * j) 8 = pack 8 (bufSlice mb (4 * j) 4) ∧
      ((burstValue mb).extractLsb' (280 - 8 * j) 8).extractLsb' 6 2 = bufGet mb (4 * j)

/-- The regions of a burst: `B[287:264]` is the CACH, dibits [0, 12); `B[263:156]` the first payload half, dibits
[12, 66); `B[155:108]` the sync field, dibits [66, 90); `B[107:0]` the second payload half, dibits [90, 144) (R210). -/
def Obligations.BurstLayout : Prop :=
  ∀ mb : DibitDelayBuffer 144,
    cachWord (burstValue mb) = pack 24 (bufSlice mb 0 12) ∧
    (burstValue mb).extractLsb' 156 108 = pack 108 (bufSlice mb 12 54) ∧
    burstSyncField (burstValue mb) = pack 48 (bufSlice mb 66 24) ∧
    (burstValue mb).extractLsb' 0 108 = pack 108 (bufSlice mb 90 54)

/-- Feeding the 36 bytes of a burst back, byte by byte, feeds exactly its 144 dibits (derived by the spec, R221). -/
def Obligations.BurstBytesFeedTheBurstBack : Prop :=
  ∀ (mb : DibitDelayBuffer 144), (burstBytes (burstValue mb)).flatMap byteDibits = mb.slots

/-- A byte becomes four dibits, `b[7:6]` first, which enter both buffers in that order, the sync-delay buffer always and the
message buffer unless a fire of the same step rotates it; packing them gives the byte back (R220). -/
def Obligations.ByteUnpacksHighDibitFirst : Prop :=
  ∀ b : Byte,
    byteDibits b = [b.extractLsb' 6 2, b.extractLsb' 4 2, b.extractLsb' 2 2, b.extractLsb' 0 2] ∧
    pack 8 (byteDibits b) = b ∧
    ∀ s t : State, exec (.byte b) s = .next t →
      bufSlice t.db 50 4 = byteDibits b ∧
      ((∀ e, Event.burst e ∈ eventsSince s t → e.lock = .normal) → bufSlice t.mb 140 4 = byteDibits b)

/-- The pseudo-transactions expand as in the table of R341 (decision D31): `WORD48 w` is 24 DIBITs whose dibits pack to
`w`, `SYNC p` is the `WORD48` of p's canonical constant, and `RECEIVE_BUFFER` is a hint and then its bytes. -/
def Obligations.PseudoTransactionsExpand : Prop :=
  (∀ w : SyncWord, ∃ ds : List Dibit, ds.length = 24 ∧ pack 48 ds = w ∧
    (Pseudo.word48 w).expand = some (ds.map .dibit)) ∧
  (∀ p c, (rom p).canonical = some c → (Pseudo.sync p).expand = (Pseudo.word48 c).expand) ∧
  (∀ p, p.isReal = false → (Pseudo.sync p).expand = none) ∧
  (∀ t bytes, (Pseudo.receiveBuffer t bytes).expand = some (.timeHint t :: bytes.map .byte)) ∧
  (∀ d, (Pseudo.receive d).expand = some [.dibit d])

/-! ### Trackers, slots, the PLL and the clock -/

/-- The voice chain: over six sync fields none of which matches, a tracker that holds frame A predicts B, C, D, E and F
with 0 errors, and its sixth step loses sync; MS and direct voice take the MS chain. `NEXT` is R454's table, with none
for every id the table does not list, and a tracker whose pattern has no successor loses sync at its next field without a
match (R452, R453, R454; the chain's end is decision D12, the cleared error count of a lost tracker D38). -/
def Obligations.VoiceSuperframeIsPredicted : Prop :=
  ∀ (cfg : Config) (f : Nat → SyncWord) (e : BitVec 8),
    (∀ k < 6, syncCompare cfg.tableOrder (f k) cfg.syncThreshold = none) →
    let after := fun (n : Nat) (start : Tracker) =>
      (List.range n).foldl (fun t k => (trackerStep cfg (f k) t).1) start
    let bs : List PatternId := [.voiceBBs, .voiceCBs, .voiceDBs, .voiceEBs, .voiceFBs, .unknown]
    let ms : List PatternId := [.voiceBMs, .voiceCMs, .voiceDMs, .voiceEMs, .voiceFMs, .unknown]
    ∀ k < 6,
      some (after (k + 1) ⟨.bsVoice, e⟩) = bs[k]?.map (⟨·, 0⟩) ∧
      (∀ p ∈ [PatternId.msVoice, .directV0, .directV1], some (after (k + 1) ⟨p, e⟩) = ms[k]?.map (⟨·, 0⟩)) ∧
      (∀ p ∈ [PatternId.bsVoice, .msVoice, .directV0, .directV1],
        (trackerStep cfg (f k) (after k ⟨p, e⟩)).2 = if k < 5 then .synchronized else .lostSync) ∧
      (∀ p, nextVoice p = List.lookup p
        [(.bsVoice, .voiceBBs), (.voiceBBs, .voiceCBs), (.voiceCBs, .voiceDBs), (.voiceDBs, .voiceEBs),
          (.voiceEBs, .voiceFBs), (.msVoice, .voiceBMs), (.directV0, .voiceBMs), (.directV1, .voiceBMs),
          (.voiceBMs, .voiceCMs), (.voiceCMs, .voiceDMs), (.voiceDMs, .voiceEMs), (.voiceEMs, .voiceFMs)]) ∧
      (∀ p ∈ [PatternId.bsData, .msData, .directD0, .directD1, .msReverse, .reserved, .voiceFBs, .voiceFMs, .unknown],
        nextVoice p = none ∧ trackerStep cfg (f k) ⟨p, e⟩ = (⟨.unknown, 0⟩, .lostSync))

/-- Only a boundary toggles the current tracker: a fire and every other DIBIT step keep it (R524, R107; no toggle on a
fire is decision D13). -/
def Obligations.OnlyABoundaryTogglesTheTracker : Prop :=
  ∀ (d : Dibit) (s t : State), exec (.dibit d) s = .next t →
    t.cur = if s.fsm = .synchronized ∧ 144 ≤ (s.cnt + 1).toNat then s.cur.other else s.cur

/-- While the framer stays synchronized the matcher register does not change (R414). -/
def Obligations.RegisterIsFrozenWhileSynchronized : Prop :=
  ∀ (ds : List Dibit) (s : State),
    (∀ n ≤ ds.length, (dibitSteps (ds.take n) s).fsm = .synchronized) → (dibitSteps ds s).reg = s.reg

/-- The slot of a burst: the CACH's if its pattern carries one and it decodes, else the direct-mode pattern's, else the
toggled last one; it becomes the last-known slot, which a DIBIT step without a burst keeps (R660; storing a direct slot is
decision D22; the table form of CACH_DECODE is the model's, log entry 2). -/
def Obligations.BurstSlotsAndTheLastSlot : Prop :=
  ∀ (d : Dibit) (s t : State), exec (.dibit d) s = .next t →
    ((∀ e ∈ eventsSince s t, e.isBurst = false) → t.lastSlot = s.lastSlot) ∧
    ∀ b, Event.burst b ∈ eventsSince s t → t.lastSlot = b.slot ∧
      (∀ k, (rom b.sync).hasCach = true → s.cfg.cachDecode.lookup (b.bits.extractLsb' 264 24) = some k → b.slot = k) ∧
      ((rom b.sync).hasCach = false ∨ s.cfg.cachDecode.lookup (b.bits.extractLsb' 264 24) = none →
        (∀ k, directSlot b.sync = some k → b.slot = k) ∧
        (directSlot b.sync = none → b.slot = s.lastSlot.toggle))

/-- `ROUND` is the nearest integer, halves up (decision D18). -/
def Obligations.RoundIsNearestHalvesUp : Prop :=
  ∀ bits : Nat, 9600 * roundMillis bits ≤ bits * 1000 + 4800 ∧ bits * 1000 + 4800 < 9600 * roundMillis bits + 9600

/-- The clock follows the sync-losses: over any stream of dibits it advances by the sum of their rounded bits and by
nothing else (R601; the advance is decision D17, rounding and wrap D18). -/
def Obligations.ClockFollowsSyncLosses : Prop :=
  ∀ (ds : List Dibit) (s : State), s.Inv →
    (dibitSteps ds s).ms = s.ms + advances (eventsSince s (dibitSteps ds s))

/-- A burst carries the value of `ms` at the moment of its emission, which is after the padding of the same step; the
step leaves that value (R604). -/
def Obligations.BurstsCarryTheClock : Prop :=
  ∀ (d : Dibit) (s t : State) (b : Burst), exec (.dibit d) s = .next t → .burst b ∈ eventsSince s t → b.tsMs = t.ms

/-- The PLL offsets, ±symbolRate/4 and +symbolRate/2 hertz, and no command without a PLL, over any stream; a command is
always one of the three (R531). -/
def Obligations.PllCommands : Prop :=
  ((pllOffset .plus90).map BitVec.toInt = some (-(4800 / 4)) ∧ (pllOffset .minus90).map BitVec.toInt = some (4800 / 4) ∧
    (pllOffset .inverted).map BitVec.toInt = some (4800 / 2) ∧ pllOffset .normal = none) ∧
  ∀ (ds : List Dibit) (s : State),
    (s.cfg.pllPresent = false → ∀ e ∈ eventsSince s (dibitSteps ds s), e.isPll = false) ∧
    ∀ o, Event.pllCorrect o ∈ eventsSince s (dibitSteps ds s) → ∃ lock, pllOffset lock = some o

/-! ### The machine as a whole -/

/-- A fresh instance, and the machine after reset, meet the invariants of R118. -/
def Obligations.PowerOnMeetsTheInvariant : Prop :=
  (∀ c : Config, c.wellFormed = true → (State.powerOn c).Inv) ∧ State.reset.Inv

/-- Every step keeps the invariants of R118, from every state that meets them. -/
def Obligations.StepKeepsTheInvariant : Prop :=
  ∀ s t : State, s.Inv → step s = .next t → t.Inv

/-- The buffers hold the stream: `db` always the last 54 dibits received, and `mb` the last 144 unless a rotated burst
was emitted among them (derived by the spec, R118 (f) and (g)). -/
def Obligations.BuffersHoldTheStream : Prop :=
  ∀ (ds : List Dibit) (s : State),
    (dibitSteps ds s).db.slots = (s.db.slots ++ ds).drop ds.length ∧
    ((∀ b, Event.burst b ∈ eventsSince s (dibitSteps ds s) → b.lock = .normal) →
      (dibitSteps ds s).mb.slots = (s.mb.slots ++ ds).drop ds.length)

/-- What one DIBIT step can emit, in order, from a state that meets the invariants: nothing; a sync-loss of 9600 bits; a
fire's optional PLL command, optional padding and burst; or a boundary's burst (derived by the spec, R710; the place of
the PLL command is decision D25). -/
def Obligations.EventsOfADibitStep : Prop :=
  ∀ (d : Dibit) (s t : State), s.Inv → exec (.dibit d) s = .next t →
    ∃ es, t.out = s.out ++ es ∧
      (es = [] ∨ (s.fsm = .searching ∧ es = [.syncLoss 9600 s.ms]) ∨
        (s.fsm = .searching ∧ t.fsm = .synchronized ∧ ∃ command padding b,
          es = command ++ padding ++ [.burst b] ∧
          (command = [] ∨ ∃ o, command = [.pllCorrect o]) ∧
          (padding = [] ∨ ∃ n, padding = [.syncLoss n s.ms])) ∨
        (s.fsm = .synchronized ∧ ∃ b, es = [.burst b] ∧ b.lock = .normal))

/-- One transaction emits at most three events (R716), but in one case: a BYTE that holds a threshold sync-loss and, at a
later dibit, a rotated, padded fire emits four, in that order. In that case R650 and R710 are followed (log entry 13). -/
def Obligations.EventsOfOneTransactionAreBounded : Prop :=
  ∀ (i : Instr) (s t : State), s.Inv → exec i s = .next t →
    (eventsSince s t).length ≤ 3 ∨
      (s.fsm = .searching ∧ t.fsm = .synchronized ∧ ∃ b offset padding burst, i = .byte b ∧
        eventsSince s t =
          [.syncLoss 9600 s.ms, .pllCorrect offset, .syncLoss padding (s.ms + 1000), .burst burst])

/-- Every burst's sync field is what its header says: within exactly `errors` bits of the canonical constant for a NORMAL
real pattern, equal to it after a rotated match, and 0 errors for continuations and placeholders (derived by the spec,
R552). -/
def Obligations.BurstSyncFieldsAreSound : Prop :=
  ∀ (ds : List Dibit) (s : State), s.Inv →
    ∀ b, Event.burst b ∈ eventsSince s (dibitSteps ds s) → b.sound

/-- Every step, of whatever transaction, keeps the invariants together with the soundness of every burst that has been
emitted (derived by the spec, R118 and R552). -/
def Obligations.StepKeepsEmittedBurstsSound : Prop :=
  ∀ s t : State, s.Inv → (∀ b, Event.burst b ∈ s.out → b.sound) → step s = .next t →
    t.Inv ∧ ∀ b, Event.burst b ∈ t.out → b.sound

/-- Conservation: the dibits of the bursts, of the sync-losses and of the counter grow by exactly the dibits received,
from every state after which no fire can come before 144 counted dibits; an earlier fire counts the reset zeros too
(derived by the spec, R551). -/
def Obligations.DibitsAreConserved : Prop :=
  (∀ (ds : List Dibit) (s : State), s.Inv → s.fsm = .synchronized ∨ 143 ≤ s.cnt.toNat →
    (dibitSteps ds s).accounted = s.accounted + ds.length) ∧
  (∀ (d : Dibit) (s t : State), s.Inv → exec (.dibit d) s = .next t → s.cnt.toNat + 1 ≤ 144 →
    t.accounted = s.accounted + 1 +
      if s.fsm = .searching ∧ t.fsm = .synchronized then 144 - (s.cnt.toNat + 1) else 0)

/-- Cadence: from a fire or a boundary burst on, as long as the framer is synchronized at every boundary, `k` slots of
144 dibits give exactly `k` events, each a burst, and one at every boundary (derived by the spec, R550). -/
def Obligations.OneBurstPerSlot : Prop :=
  ∀ (k : Nat) (ds : List Dibit) (s : State), s.fsm = .synchronized → s.cnt = 0 → ds.length = 144 * k →
    (∀ j ≤ k, (dibitSteps (ds.take (144 * j)) s).fsm = .synchronized) →
    (dibitSteps ds s).cnt = 0 ∧
    (∀ j ≤ k, ∃ bs : List Burst, bs.length = j ∧ (dibitSteps (ds.take (144 * j)) s).out = s.out ++ bs.map .burst) ∧
    (∀ n, n < ds.length → (dibitSteps (ds.take n) s).out = (dibitSteps (ds.take (144 * (n / 144))) s).out)

/-- Detection latency after power-on and after RESET: a stream that is shorter than 78 − SEARCH_THRESHOLD dibits and
shorter than 76 fires nothing and emits nothing (derived by the spec, R811; log entry 11). -/
def Obligations.NoFireBeforeTheDelayLineFills : Prop :=
  (∀ (c : Config) (ds : List Dibit), c.wellFormed = true →
    ds.length < 78 - c.searchThreshold → ds.length < 76 →
    (dibitSteps ds (State.powerOn c)).fsm = .searching ∧ (dibitSteps ds (State.powerOn c)).out = []) ∧
  (∀ (s t : State) (ds : List Dibit), s.cfg.wellFormed = true → exec .reset s = .next t →
    ds.length < 78 - s.cfg.searchThreshold → ds.length < 76 →
    (dibitSteps ds t).fsm = .searching ∧ (dibitSteps ds t).out = s.out)
end

