-- ==== Sys2Proof/Laws/Buffers.lean ====
section
/-! SUPPORT. What the buffer operations and the packing do, once each. -/

namespace Sys2Proof.Machine

/-- Two buffers with the same dibits are the same datum. -/
@[ext] theorem DibitDelayBuffer.ext {n : Nat} {a b : DibitDelayBuffer n} (h : a.slots = b.slots) : a = b := by
  cases a; cases b; simp_all

variable {n : Nat} (b : DibitDelayBuffer n) (d : Dibit)

@[simp] theorem zeros_slots (n : Nat) : (DibitDelayBuffer.zeros n).slots = List.replicate n 0 := rfl

theorem bufPut_slots : (bufPut b d).slots = (b.slots ++ [d]).tail := rfl

/-- A buffer that holds at least one dibit loses its oldest and gains the newest (R201). -/
theorem bufPut_slots_of_pos (h : 0 < n) : (bufPut b d).slots = b.slots.tail ++ [d] := by
  have : b.slots ≠ [] := by
    intro e
    have := b.size
    simp [e] at this
    omega
  rw [bufPut_slots, List.tail_append_of_ne_nil this]

@[simp] theorem bufGetAndPut_fst : (bufGetAndPut b d).1 = bufOldest b := rfl
@[simp] theorem bufGetAndPut_snd : (bufGetAndPut b d).2 = bufPut b d := rfl
@[simp] theorem bufReset_eq : bufReset b = .zeros n := rfl

@[simp] theorem bufRotate_slots (perm : Dibit → Dibit) : (bufRotate b perm).slots = b.slots.map perm := rfl

/-- NORMAL repairs nothing. -/
@[simp] theorem bufRotate_normal : bufRotate b (rotDibit .normal) = b := by
  ext1
  show b.slots.map (fun d => d) = b.slots
  simp

/-- A window is answered exactly when it lies inside the buffer (R203, R208). -/
theorem bufWindow_eq (offset length : Nat) :
    bufWindow b offset length =
      if offset + length ≤ n then .ok (bufSlice b offset length) else .error .outOfRange := rfl

/-- The tracker's and the matcher's constant window is inside, so it is never refused (R207, R208). -/
theorem bufPackBits_syncField (mb : DibitDelayBuffer 144) :
    bufPackBits mb syncOffset syncDibits = .ok (syncFieldValue mb) := rfl

/-- The constant window of the whole burst is inside (R208, R211). -/
theorem bufPackBits_burst (mb : DibitDelayBuffer 144) : bufPackBits mb 0 burstDibits = .ok (burstValue mb) := by
  have h : mb.slots.take 144 = mb.slots := by
    rw [List.take_eq_self_iff]
    exact Nat.le_of_eq mb.size
  simp only [bufPackBits, bufWindow, bufSlice, burstValue, List.drop_zero, burstDibits, h]
  rfl

theorem packNat_nil : packNat [] = 0 := rfl

theorem packNat_append_singleton (ds : List Dibit) : packNat (ds ++ [d]) = packNat ds * 4 + d.toNat := by
  simp [packNat, List.foldl_append]

/-- A sequence of dibits packs into two bits each (R21). -/
theorem packNat_lt (ds : List Dibit) : packNat ds < 4 ^ ds.length := by
  induction ds using List.reverseRecOn with
  | nil => simp [packNat]
  | append_singleton ds d ih =>
    rw [packNat_append_singleton, List.length_append, List.length_singleton, Nat.pow_succ]
    have := d.isLt
    omega

theorem packNat_append (xs ys : List Dibit) : packNat (xs ++ ys) = packNat xs * 4 ^ ys.length + packNat ys := by
  induction ys using List.reverseRecOn with
  | nil => simp [packNat]
  | append_singleton ys d ih =>
    rw [← List.append_assoc, packNat_append_singleton, ih, packNat_append_singleton, List.length_append,
      List.length_singleton, Nat.pow_succ]
    ring

@[simp] theorem length_unpackNat (k v : Nat) : (unpackNat k v).length = k := by
  induction k with
  | zero => rfl
  | succ k ih => simp [unpackNat, ih]

@[simp] theorem length_syncWordDibits (w : SyncWord) : (syncWordDibits w).length = 24 := length_unpackNat _ _

end Sys2Proof.Machine
end

