-- ==== Sys2Proof/Laws/Comparators.lean ====
section
/-! SUPPORT. What the two comparators and the tracker's step can answer, once each. -/

namespace Sys2Proof.Machine

/-- What one pattern's tests report (R411). -/
theorem searchPattern_some {r : SyncWord} {threshold : Nat} {id : PatternId} {m : Match}
    (h : searchPattern r threshold id = some m) :
    ∃ c, (rom id).canonical = some c ∧ m.id = id ∧
      ((m.lock = .normal ∧ m.errors = hamming r c ∧ hamming r c ≤ threshold) ∨
       (m.lock ≠ .normal ∧ m.errors = 0 ∧ threshold < hamming r c ∧ romWord m.lock id = some r)) := by
  unfold searchPattern at h
  cases hc : (rom id).canonical with
  | none => simp [hc] at h
  | some c =>
    simp only [hc] at h
    refine ⟨c, rfl, ?_⟩
    split at h
    · obtain rfl := Option.some.inj h
      simp_all
    · rename_i hgt
      split at h
      · obtain rfl := Option.some.inj h
        simp_all [romWord]
      · split at h
        · obtain rfl := Option.some.inj h
          simp_all [romWord]
        · split at h
          · obtain rfl := Option.some.inj h
            simp_all [romWord]
          · cases h

/-- The first pattern in table order that reports anything gives the answer (R411). -/
theorem searchCompare_some {order : List PatternId} {r : SyncWord} {threshold : Nat} {m : Match}
    (h : searchCompare order r threshold = some m) :
    ∃ before after, order = before ++ m.id :: after ∧ (∀ q ∈ before, searchPattern r threshold q = none) ∧
      searchPattern r threshold m.id = some m := by
  obtain ⟨before, id, after, ho, hm, hb⟩ := List.findSome?_eq_some_iff.mp h
  obtain ⟨-, -, rfl, -⟩ := searchPattern_some hm
  exact ⟨before, after, ho, hb, hm⟩

/-- What one pattern's soft test reports (R450). -/
theorem softPattern_some {f : SyncWord} {threshold : Nat} {id : PatternId} {m : Match}
    (h : softPattern f threshold id = some m) :
    ∃ c, (rom id).canonical = some c ∧ m = ⟨id, .normal, hamming f c⟩ ∧ hamming f c ≤ threshold := by
  unfold softPattern at h
  cases hc : (rom id).canonical with
  | none => simp [hc] at h
  | some c =>
    simp only [hc] at h
    split at h
    · exact ⟨c, rfl, (Option.some.inj h).symm, ‹_›⟩
    · cases h

/-- What one pattern's exact test reports (R450). -/
theorem exactPattern_some {f : SyncWord} {id : PatternId} {m : Match} (h : exactPattern f id = some m) :
    (rom id).canonical = some f ∧ m = ⟨id, .normal, 0⟩ := by
  unfold exactPattern at h
  split at h
  · exact ⟨‹_›, (Option.some.inj h).symm⟩
  · cases h

/-- The exact pass comes before the soft pass (R450). -/
theorem syncCompare_cases (order : List PatternId) (f : SyncWord) (threshold : Nat) :
    (∃ m, order.findSome? (exactPattern f) = some m ∧ syncCompare order f threshold = some m) ∨
    (order.findSome? (exactPattern f) = none ∧
      syncCompare order f threshold = order.findSome? (softPattern f threshold)) := by
  cases h : order.findSome? (exactPattern f) with
  | none => exact .inr ⟨rfl, by simp [syncCompare, h]⟩
  | some m => exact .inl ⟨m, rfl, by simp [syncCompare, h]⟩

/-- The three outcomes of a tracker step (R451, R452, R453). -/
theorem trackerStep_cases (cfg : Config) (f : SyncWord) (t : Tracker) :
    (∃ m, syncCompare cfg.tableOrder f cfg.syncThreshold = some m ∧
      trackerStep cfg f t = (⟨m.id, BitVec.ofNat 8 m.errors⟩, .synchronized)) ∨
    (∃ p, syncCompare cfg.tableOrder f cfg.syncThreshold = none ∧ nextVoice t.pat = some p ∧
      trackerStep cfg f t = (⟨p, 0⟩, .synchronized)) ∨
    (syncCompare cfg.tableOrder f cfg.syncThreshold = none ∧ nextVoice t.pat = none ∧
      trackerStep cfg f t = (Tracker.lost, .lostSync)) := by
  unfold trackerStep
  cases hm : syncCompare cfg.tableOrder f cfg.syncThreshold with
  | some m => exact .inl ⟨m, rfl, rfl⟩
  | none =>
    cases hp : nextVoice t.pat with
    | some p => exact .inr (.inl ⟨p, rfl, rfl, rfl⟩)
    | none => exact .inr (.inr ⟨rfl, rfl, rfl⟩)

end Sys2Proof.Machine
end

