-- ==== Sys2Proof/Laws/State.lean ====
section
/-! SUPPORT. What every update of the state does to every field, once: `<update>_<field>`. -/

namespace Sys2Proof.Machine

variable (s : State)

/-! ### toggleCurrent -/

@[simp] theorem toggleCurrent_mb : (s.toggleCurrent).mb = s.mb := rfl
@[simp] theorem toggleCurrent_db : (s.toggleCurrent).db = s.db := rfl
@[simp] theorem toggleCurrent_reg : (s.toggleCurrent).reg = s.reg := rfl
@[simp] theorem toggleCurrent_cnt : (s.toggleCurrent).cnt = s.cnt := rfl
@[simp] theorem toggleCurrent_fsm : (s.toggleCurrent).fsm = s.fsm := rfl
@[simp] theorem toggleCurrent_trk0 : (s.toggleCurrent).trk0 = s.trk0 := rfl
@[simp] theorem toggleCurrent_trk1 : (s.toggleCurrent).trk1 = s.trk1 := rfl
@[simp] theorem toggleCurrent_cur : (s.toggleCurrent).cur = s.cur.other := rfl
@[simp] theorem toggleCurrent_lastSlot : (s.toggleCurrent).lastSlot = s.lastSlot := rfl
@[simp] theorem toggleCurrent_ms : (s.toggleCurrent).ms = s.ms := rfl
@[simp] theorem toggleCurrent_refused : (s.toggleCurrent).refused = s.refused := rfl
@[simp] theorem toggleCurrent_cfg : (s.toggleCurrent).cfg = s.cfg := rfl
@[simp] theorem toggleCurrent_input : (s.toggleCurrent).input = s.input := rfl
@[simp] theorem toggleCurrent_out : (s.toggleCurrent).out = s.out := rfl
@[simp] theorem toggleCurrent_reply : (s.toggleCurrent).reply = s.reply := rfl

/-! ### emit -/

@[simp] theorem emit_mb (e : Event) : (s.emit e).mb = s.mb := rfl
@[simp] theorem emit_db (e : Event) : (s.emit e).db = s.db := rfl
@[simp] theorem emit_reg (e : Event) : (s.emit e).reg = s.reg := rfl
@[simp] theorem emit_cnt (e : Event) : (s.emit e).cnt = s.cnt := rfl
@[simp] theorem emit_fsm (e : Event) : (s.emit e).fsm = s.fsm := rfl
@[simp] theorem emit_trk0 (e : Event) : (s.emit e).trk0 = s.trk0 := rfl
@[simp] theorem emit_trk1 (e : Event) : (s.emit e).trk1 = s.trk1 := rfl
@[simp] theorem emit_cur (e : Event) : (s.emit e).cur = s.cur := rfl
@[simp] theorem emit_lastSlot (e : Event) : (s.emit e).lastSlot = s.lastSlot := rfl
@[simp] theorem emit_ms (e : Event) : (s.emit e).ms = s.ms := rfl
@[simp] theorem emit_refused (e : Event) : (s.emit e).refused = s.refused := rfl
@[simp] theorem emit_cfg (e : Event) : (s.emit e).cfg = s.cfg := rfl
@[simp] theorem emit_input (e : Event) : (s.emit e).input = s.input := rfl
@[simp] theorem emit_out (e : Event) : (s.emit e).out = s.out ++ [e] := rfl
@[simp] theorem emit_reply (e : Event) : (s.emit e).reply = s.reply := rfl

/-! ### syncLossEvent -/

@[simp] theorem syncLossEvent_mb (bits : Nat) : (syncLossEvent bits s).mb = s.mb := rfl
@[simp] theorem syncLossEvent_db (bits : Nat) : (syncLossEvent bits s).db = s.db := rfl
@[simp] theorem syncLossEvent_reg (bits : Nat) : (syncLossEvent bits s).reg = s.reg := rfl
@[simp] theorem syncLossEvent_cnt (bits : Nat) : (syncLossEvent bits s).cnt = s.cnt := rfl
@[simp] theorem syncLossEvent_fsm (bits : Nat) : (syncLossEvent bits s).fsm = s.fsm := rfl
@[simp] theorem syncLossEvent_trk0 (bits : Nat) : (syncLossEvent bits s).trk0 = s.trk0 := rfl
@[simp] theorem syncLossEvent_trk1 (bits : Nat) : (syncLossEvent bits s).trk1 = s.trk1 := rfl
@[simp] theorem syncLossEvent_cur (bits : Nat) : (syncLossEvent bits s).cur = s.cur := rfl
@[simp] theorem syncLossEvent_lastSlot (bits : Nat) : (syncLossEvent bits s).lastSlot = s.lastSlot := rfl
@[simp] theorem syncLossEvent_ms (bits : Nat) : (syncLossEvent bits s).ms = s.ms + BitVec.ofNat 64 (roundMillis bits) := rfl
@[simp] theorem syncLossEvent_refused (bits : Nat) : (syncLossEvent bits s).refused = s.refused := rfl
@[simp] theorem syncLossEvent_cfg (bits : Nat) : (syncLossEvent bits s).cfg = s.cfg := rfl
@[simp] theorem syncLossEvent_input (bits : Nat) : (syncLossEvent bits s).input = s.input := rfl
@[simp] theorem syncLossEvent_out (bits : Nat) : (syncLossEvent bits s).out = s.out ++ [.syncLoss (BitVec.ofNat 32 bits) s.ms] := rfl
@[simp] theorem syncLossEvent_reply (bits : Nat) : (syncLossEvent bits s).reply = s.reply := rfl

/-! ### matchFeed -/

@[simp] theorem matchFeed_mb (d : Dibit) : (matchFeed d s).mb = s.mb := rfl
@[simp] theorem matchFeed_db (d : Dibit) : (matchFeed d s).db = s.db := rfl
@[simp] theorem matchFeed_reg (d : Dibit) : (matchFeed d s).reg = shiftRegister s.reg d := rfl
@[simp] theorem matchFeed_cnt (d : Dibit) : (matchFeed d s).cnt = s.cnt := rfl
@[simp] theorem matchFeed_fsm (d : Dibit) : (matchFeed d s).fsm = s.fsm := rfl
@[simp] theorem matchFeed_trk0 (d : Dibit) : (matchFeed d s).trk0 = s.trk0 := rfl
@[simp] theorem matchFeed_trk1 (d : Dibit) : (matchFeed d s).trk1 = s.trk1 := rfl
@[simp] theorem matchFeed_cur (d : Dibit) : (matchFeed d s).cur = s.cur := rfl
@[simp] theorem matchFeed_lastSlot (d : Dibit) : (matchFeed d s).lastSlot = s.lastSlot := rfl
@[simp] theorem matchFeed_ms (d : Dibit) : (matchFeed d s).ms = s.ms := rfl
@[simp] theorem matchFeed_refused (d : Dibit) : (matchFeed d s).refused = s.refused := rfl
@[simp] theorem matchFeed_cfg (d : Dibit) : (matchFeed d s).cfg = s.cfg := rfl
@[simp] theorem matchFeed_input (d : Dibit) : (matchFeed d s).input = s.input := rfl
@[simp] theorem matchFeed_out (d : Dibit) : (matchFeed d s).out = s.out := rfl
@[simp] theorem matchFeed_reply (d : Dibit) : (matchFeed d s).reply = s.reply := rfl

/-! ### setRegister -/

@[simp] theorem setRegister_mb (v : SyncWord) : (setRegister v s).mb = s.mb := rfl
@[simp] theorem setRegister_db (v : SyncWord) : (setRegister v s).db = s.db := rfl
@[simp] theorem setRegister_reg (v : SyncWord) : (setRegister v s).reg = v := rfl
@[simp] theorem setRegister_cnt (v : SyncWord) : (setRegister v s).cnt = s.cnt := rfl
@[simp] theorem setRegister_fsm (v : SyncWord) : (setRegister v s).fsm = s.fsm := rfl
@[simp] theorem setRegister_trk0 (v : SyncWord) : (setRegister v s).trk0 = s.trk0 := rfl
@[simp] theorem setRegister_trk1 (v : SyncWord) : (setRegister v s).trk1 = s.trk1 := rfl
@[simp] theorem setRegister_cur (v : SyncWord) : (setRegister v s).cur = s.cur := rfl
@[simp] theorem setRegister_lastSlot (v : SyncWord) : (setRegister v s).lastSlot = s.lastSlot := rfl
@[simp] theorem setRegister_ms (v : SyncWord) : (setRegister v s).ms = s.ms := rfl
@[simp] theorem setRegister_refused (v : SyncWord) : (setRegister v s).refused = s.refused := rfl
@[simp] theorem setRegister_cfg (v : SyncWord) : (setRegister v s).cfg = s.cfg := rfl
@[simp] theorem setRegister_input (v : SyncWord) : (setRegister v s).input = s.input := rfl
@[simp] theorem setRegister_out (v : SyncWord) : (setRegister v s).out = s.out := rfl
@[simp] theorem setRegister_reply (v : SyncWord) : (setRegister v s).reply = s.reply := rfl

/-! ### assignSlot -/

@[simp] theorem assignSlot_mb (id : PatternId) (bits : BurstBits) : (assignSlot id bits s).mb = s.mb := rfl
@[simp] theorem assignSlot_db (id : PatternId) (bits : BurstBits) : (assignSlot id bits s).db = s.db := rfl
@[simp] theorem assignSlot_reg (id : PatternId) (bits : BurstBits) : (assignSlot id bits s).reg = s.reg := rfl
@[simp] theorem assignSlot_cnt (id : PatternId) (bits : BurstBits) : (assignSlot id bits s).cnt = s.cnt := rfl
@[simp] theorem assignSlot_fsm (id : PatternId) (bits : BurstBits) : (assignSlot id bits s).fsm = s.fsm := rfl
@[simp] theorem assignSlot_trk0 (id : PatternId) (bits : BurstBits) : (assignSlot id bits s).trk0 = s.trk0 := rfl
@[simp] theorem assignSlot_trk1 (id : PatternId) (bits : BurstBits) : (assignSlot id bits s).trk1 = s.trk1 := rfl
@[simp] theorem assignSlot_cur (id : PatternId) (bits : BurstBits) : (assignSlot id bits s).cur = s.cur := rfl
@[simp] theorem assignSlot_lastSlot (id : PatternId) (bits : BurstBits) : (assignSlot id bits s).lastSlot = slotFor s.cfg id bits s.lastSlot := rfl
@[simp] theorem assignSlot_ms (id : PatternId) (bits : BurstBits) : (assignSlot id bits s).ms = s.ms := rfl
@[simp] theorem assignSlot_refused (id : PatternId) (bits : BurstBits) : (assignSlot id bits s).refused = s.refused := rfl
@[simp] theorem assignSlot_cfg (id : PatternId) (bits : BurstBits) : (assignSlot id bits s).cfg = s.cfg := rfl
@[simp] theorem assignSlot_input (id : PatternId) (bits : BurstBits) : (assignSlot id bits s).input = s.input := rfl
@[simp] theorem assignSlot_out (id : PatternId) (bits : BurstBits) : (assignSlot id bits s).out = s.out := rfl
@[simp] theorem assignSlot_reply (id : PatternId) (bits : BurstBits) : (assignSlot id bits s).reply = s.reply := rfl

/-! ### repairBuffer -/

@[simp] theorem repairBuffer_mb (lock : CarrierLock) : (repairBuffer lock s).mb = bufRotate s.mb (rotDibit (inverseLock lock)) := rfl
@[simp] theorem repairBuffer_db (lock : CarrierLock) : (repairBuffer lock s).db = s.db := rfl
@[simp] theorem repairBuffer_reg (lock : CarrierLock) : (repairBuffer lock s).reg = s.reg := rfl
@[simp] theorem repairBuffer_cnt (lock : CarrierLock) : (repairBuffer lock s).cnt = s.cnt := rfl
@[simp] theorem repairBuffer_fsm (lock : CarrierLock) : (repairBuffer lock s).fsm = s.fsm := rfl
@[simp] theorem repairBuffer_trk0 (lock : CarrierLock) : (repairBuffer lock s).trk0 = s.trk0 := rfl
@[simp] theorem repairBuffer_trk1 (lock : CarrierLock) : (repairBuffer lock s).trk1 = s.trk1 := rfl
@[simp] theorem repairBuffer_cur (lock : CarrierLock) : (repairBuffer lock s).cur = s.cur := rfl
@[simp] theorem repairBuffer_lastSlot (lock : CarrierLock) : (repairBuffer lock s).lastSlot = s.lastSlot := rfl
@[simp] theorem repairBuffer_ms (lock : CarrierLock) : (repairBuffer lock s).ms = s.ms := rfl
@[simp] theorem repairBuffer_refused (lock : CarrierLock) : (repairBuffer lock s).refused = s.refused := rfl
@[simp] theorem repairBuffer_cfg (lock : CarrierLock) : (repairBuffer lock s).cfg = s.cfg := rfl
@[simp] theorem repairBuffer_input (lock : CarrierLock) : (repairBuffer lock s).input = s.input := rfl
@[simp] theorem repairBuffer_out (lock : CarrierLock) : (repairBuffer lock s).out = s.out := rfl
@[simp] theorem repairBuffer_reply (lock : CarrierLock) : (repairBuffer lock s).reply = s.reply := rfl

/-! ### returnToSearching -/

@[simp] theorem returnToSearching_mb : (returnToSearching s).mb = s.mb := rfl
@[simp] theorem returnToSearching_db : (returnToSearching s).db = s.db := rfl
@[simp] theorem returnToSearching_reg : (returnToSearching s).reg = syncFieldValue s.mb := rfl
@[simp] theorem returnToSearching_cnt : (returnToSearching s).cnt = s.cnt := rfl
@[simp] theorem returnToSearching_fsm : (returnToSearching s).fsm = .searching := rfl
@[simp] theorem returnToSearching_trk0 : (returnToSearching s).trk0 = s.trk0 := rfl
@[simp] theorem returnToSearching_trk1 : (returnToSearching s).trk1 = s.trk1 := rfl
@[simp] theorem returnToSearching_cur : (returnToSearching s).cur = s.cur := rfl
@[simp] theorem returnToSearching_lastSlot : (returnToSearching s).lastSlot = s.lastSlot := rfl
@[simp] theorem returnToSearching_ms : (returnToSearching s).ms = s.ms := rfl
@[simp] theorem returnToSearching_refused : (returnToSearching s).refused = s.refused := rfl
@[simp] theorem returnToSearching_cfg : (returnToSearching s).cfg = s.cfg := rfl
@[simp] theorem returnToSearching_input : (returnToSearching s).input = s.input := rfl
@[simp] theorem returnToSearching_out : (returnToSearching s).out = s.out := rfl
@[simp] theorem returnToSearching_reply : (returnToSearching s).reply = s.reply := rfl

/-! ### receiveDibit -/

@[simp] theorem receiveDibit_mb (d : Dibit) : (receiveDibit d s).mb = bufPut s.mb d := rfl
@[simp] theorem receiveDibit_db (d : Dibit) : (receiveDibit d s).db = bufPut s.db d := rfl
@[simp] theorem receiveDibit_reg (d : Dibit) : (receiveDibit d s).reg = s.reg := rfl
@[simp] theorem receiveDibit_cnt (d : Dibit) : (receiveDibit d s).cnt = s.cnt + 1 := rfl
@[simp] theorem receiveDibit_fsm (d : Dibit) : (receiveDibit d s).fsm = s.fsm := rfl
@[simp] theorem receiveDibit_trk0 (d : Dibit) : (receiveDibit d s).trk0 = s.trk0 := rfl
@[simp] theorem receiveDibit_trk1 (d : Dibit) : (receiveDibit d s).trk1 = s.trk1 := rfl
@[simp] theorem receiveDibit_cur (d : Dibit) : (receiveDibit d s).cur = s.cur := rfl
@[simp] theorem receiveDibit_lastSlot (d : Dibit) : (receiveDibit d s).lastSlot = s.lastSlot := rfl
@[simp] theorem receiveDibit_ms (d : Dibit) : (receiveDibit d s).ms = s.ms := rfl
@[simp] theorem receiveDibit_refused (d : Dibit) : (receiveDibit d s).refused = s.refused := rfl
@[simp] theorem receiveDibit_cfg (d : Dibit) : (receiveDibit d s).cfg = s.cfg := rfl
@[simp] theorem receiveDibit_input (d : Dibit) : (receiveDibit d s).input = s.input := rfl
@[simp] theorem receiveDibit_out (d : Dibit) : (receiveDibit d s).out = s.out := rfl
@[simp] theorem receiveDibit_reply (d : Dibit) : (receiveDibit d s).reply = s.reply := rfl

/-! ### packAndEmit -/

@[simp] theorem packAndEmit_mb (id : PatternId) (errors : BitVec 8) (lock : CarrierLock) : (packAndEmit id errors lock s).mb = s.mb := rfl
@[simp] theorem packAndEmit_db (id : PatternId) (errors : BitVec 8) (lock : CarrierLock) : (packAndEmit id errors lock s).db = s.db := rfl
@[simp] theorem packAndEmit_reg (id : PatternId) (errors : BitVec 8) (lock : CarrierLock) : (packAndEmit id errors lock s).reg = s.reg := rfl
@[simp] theorem packAndEmit_cnt (id : PatternId) (errors : BitVec 8) (lock : CarrierLock) : (packAndEmit id errors lock s).cnt = 0 := rfl
@[simp] theorem packAndEmit_fsm (id : PatternId) (errors : BitVec 8) (lock : CarrierLock) : (packAndEmit id errors lock s).fsm = s.fsm := rfl
@[simp] theorem packAndEmit_trk0 (id : PatternId) (errors : BitVec 8) (lock : CarrierLock) : (packAndEmit id errors lock s).trk0 = s.trk0 := rfl
@[simp] theorem packAndEmit_trk1 (id : PatternId) (errors : BitVec 8) (lock : CarrierLock) : (packAndEmit id errors lock s).trk1 = s.trk1 := rfl
@[simp] theorem packAndEmit_cur (id : PatternId) (errors : BitVec 8) (lock : CarrierLock) : (packAndEmit id errors lock s).cur = s.cur := rfl
@[simp] theorem packAndEmit_lastSlot (id : PatternId) (errors : BitVec 8) (lock : CarrierLock) : (packAndEmit id errors lock s).lastSlot = slotFor s.cfg id (burstValue s.mb) s.lastSlot := rfl
@[simp] theorem packAndEmit_ms (id : PatternId) (errors : BitVec 8) (lock : CarrierLock) : (packAndEmit id errors lock s).ms = s.ms := rfl
@[simp] theorem packAndEmit_refused (id : PatternId) (errors : BitVec 8) (lock : CarrierLock) : (packAndEmit id errors lock s).refused = s.refused := rfl
@[simp] theorem packAndEmit_cfg (id : PatternId) (errors : BitVec 8) (lock : CarrierLock) : (packAndEmit id errors lock s).cfg = s.cfg := rfl
@[simp] theorem packAndEmit_input (id : PatternId) (errors : BitVec 8) (lock : CarrierLock) : (packAndEmit id errors lock s).input = s.input := rfl
@[simp] theorem packAndEmit_out (id : PatternId) (errors : BitVec 8) (lock : CarrierLock) : (packAndEmit id errors lock s).out = s.out ++ [.burst ⟨burstValue s.mb, id, lock, errors, slotFor s.cfg id (burstValue s.mb) s.lastSlot, s.ms⟩] := rfl
@[simp] theorem packAndEmit_reply (id : PatternId) (errors : BitVec 8) (lock : CarrierLock) : (packAndEmit id errors lock s).reply = s.reply := rfl

/-! ### refuseTransaction -/

@[simp] theorem refuseTransaction_mb (code : RefusalCode) : (refuseTransaction code s).mb = s.mb := rfl
@[simp] theorem refuseTransaction_db (code : RefusalCode) : (refuseTransaction code s).db = s.db := rfl
@[simp] theorem refuseTransaction_reg (code : RefusalCode) : (refuseTransaction code s).reg = s.reg := rfl
@[simp] theorem refuseTransaction_cnt (code : RefusalCode) : (refuseTransaction code s).cnt = s.cnt := rfl
@[simp] theorem refuseTransaction_fsm (code : RefusalCode) : (refuseTransaction code s).fsm = s.fsm := rfl
@[simp] theorem refuseTransaction_trk0 (code : RefusalCode) : (refuseTransaction code s).trk0 = s.trk0 := rfl
@[simp] theorem refuseTransaction_trk1 (code : RefusalCode) : (refuseTransaction code s).trk1 = s.trk1 := rfl
@[simp] theorem refuseTransaction_cur (code : RefusalCode) : (refuseTransaction code s).cur = s.cur := rfl
@[simp] theorem refuseTransaction_lastSlot (code : RefusalCode) : (refuseTransaction code s).lastSlot = s.lastSlot := rfl
@[simp] theorem refuseTransaction_ms (code : RefusalCode) : (refuseTransaction code s).ms = s.ms := rfl
@[simp] theorem refuseTransaction_refused (code : RefusalCode) : (refuseTransaction code s).refused = true := rfl
@[simp] theorem refuseTransaction_cfg (code : RefusalCode) : (refuseTransaction code s).cfg = s.cfg := rfl
@[simp] theorem refuseTransaction_input (code : RefusalCode) : (refuseTransaction code s).input = s.input := rfl
@[simp] theorem refuseTransaction_out (code : RefusalCode) : (refuseTransaction code s).out = s.out := rfl
@[simp] theorem refuseTransaction_reply (code : RefusalCode) : (refuseTransaction code s).reply = some code := rfl

/-! ### resetState -/

@[simp] theorem resetState_mb : (resetState s).mb = .zeros 144 := rfl
@[simp] theorem resetState_db : (resetState s).db = .zeros 54 := rfl
@[simp] theorem resetState_reg : (resetState s).reg = 0 := rfl
@[simp] theorem resetState_cnt : (resetState s).cnt = 0 := rfl
@[simp] theorem resetState_fsm : (resetState s).fsm = .searching := rfl
@[simp] theorem resetState_trk0 : (resetState s).trk0 = Tracker.lost := rfl
@[simp] theorem resetState_trk1 : (resetState s).trk1 = Tracker.lost := rfl
@[simp] theorem resetState_cur : (resetState s).cur = .primary := rfl
@[simp] theorem resetState_lastSlot : (resetState s).lastSlot = .slot1 := rfl
@[simp] theorem resetState_ms : (resetState s).ms = s.ms := rfl
@[simp] theorem resetState_refused : (resetState s).refused = s.refused := rfl
@[simp] theorem resetState_cfg : (resetState s).cfg = s.cfg := rfl
@[simp] theorem resetState_input : (resetState s).input = s.input := rfl
@[simp] theorem resetState_out : (resetState s).out = s.out := rfl
@[simp] theorem resetState_reply : (resetState s).reply = s.reply := rfl

/-! ### presentWord -/

@[simp] theorem presentWord_mb (w : TxnWord) : (s.presentWord w).mb = s.mb := rfl
@[simp] theorem presentWord_db (w : TxnWord) : (s.presentWord w).db = s.db := rfl
@[simp] theorem presentWord_reg (w : TxnWord) : (s.presentWord w).reg = s.reg := rfl
@[simp] theorem presentWord_cnt (w : TxnWord) : (s.presentWord w).cnt = s.cnt := rfl
@[simp] theorem presentWord_fsm (w : TxnWord) : (s.presentWord w).fsm = s.fsm := rfl
@[simp] theorem presentWord_trk0 (w : TxnWord) : (s.presentWord w).trk0 = s.trk0 := rfl
@[simp] theorem presentWord_trk1 (w : TxnWord) : (s.presentWord w).trk1 = s.trk1 := rfl
@[simp] theorem presentWord_cur (w : TxnWord) : (s.presentWord w).cur = s.cur := rfl
@[simp] theorem presentWord_lastSlot (w : TxnWord) : (s.presentWord w).lastSlot = s.lastSlot := rfl
@[simp] theorem presentWord_ms (w : TxnWord) : (s.presentWord w).ms = s.ms := rfl
@[simp] theorem presentWord_refused (w : TxnWord) : (s.presentWord w).refused = s.refused := rfl
@[simp] theorem presentWord_cfg (w : TxnWord) : (s.presentWord w).cfg = s.cfg := rfl
@[simp] theorem presentWord_input (w : TxnWord) : (s.presentWord w).input = w :: s.input := rfl
@[simp] theorem presentWord_out (w : TxnWord) : (s.presentWord w).out = s.out := rfl
@[simp] theorem presentWord_reply (w : TxnWord) : (s.presentWord w).reply = s.reply := rfl

/-! ### receiveWord -/

@[simp] theorem receiveWord_mb (w : TxnWord) : (s.receiveWord w).mb = s.mb := rfl
@[simp] theorem receiveWord_db (w : TxnWord) : (s.receiveWord w).db = s.db := rfl
@[simp] theorem receiveWord_reg (w : TxnWord) : (s.receiveWord w).reg = s.reg := rfl
@[simp] theorem receiveWord_cnt (w : TxnWord) : (s.receiveWord w).cnt = s.cnt := rfl
@[simp] theorem receiveWord_fsm (w : TxnWord) : (s.receiveWord w).fsm = s.fsm := rfl
@[simp] theorem receiveWord_trk0 (w : TxnWord) : (s.receiveWord w).trk0 = s.trk0 := rfl
@[simp] theorem receiveWord_trk1 (w : TxnWord) : (s.receiveWord w).trk1 = s.trk1 := rfl
@[simp] theorem receiveWord_cur (w : TxnWord) : (s.receiveWord w).cur = s.cur := rfl
@[simp] theorem receiveWord_lastSlot (w : TxnWord) : (s.receiveWord w).lastSlot = s.lastSlot := rfl
@[simp] theorem receiveWord_ms (w : TxnWord) : (s.receiveWord w).ms = s.ms := rfl
@[simp] theorem receiveWord_refused (w : TxnWord) : (s.receiveWord w).refused = s.refused := rfl
@[simp] theorem receiveWord_cfg (w : TxnWord) : (s.receiveWord w).cfg = s.cfg := rfl
@[simp] theorem receiveWord_input (w : TxnWord) : (s.receiveWord w).input = s.input ++ [w] := rfl
@[simp] theorem receiveWord_out (w : TxnWord) : (s.receiveWord w).out = s.out := rfl
@[simp] theorem receiveWord_reply (w : TxnWord) : (s.receiveWord w).reply = s.reply := rfl

/-! ### setCurrent -/

@[simp] theorem setCurrent_mb (t : Tracker) : (s.setCurrent t).mb = s.mb := by cases h : s.cur <;> simp [State.setCurrent, h]
@[simp] theorem setCurrent_db (t : Tracker) : (s.setCurrent t).db = s.db := by cases h : s.cur <;> simp [State.setCurrent, h]
@[simp] theorem setCurrent_reg (t : Tracker) : (s.setCurrent t).reg = s.reg := by cases h : s.cur <;> simp [State.setCurrent, h]
@[simp] theorem setCurrent_cnt (t : Tracker) : (s.setCurrent t).cnt = s.cnt := by cases h : s.cur <;> simp [State.setCurrent, h]
@[simp] theorem setCurrent_fsm (t : Tracker) : (s.setCurrent t).fsm = s.fsm := by cases h : s.cur <;> simp [State.setCurrent, h]
@[simp] theorem setCurrent_cur (t : Tracker) : (s.setCurrent t).cur = s.cur := by cases h : s.cur <;> simp [State.setCurrent, h]
@[simp] theorem setCurrent_lastSlot (t : Tracker) : (s.setCurrent t).lastSlot = s.lastSlot := by cases h : s.cur <;> simp [State.setCurrent, h]
@[simp] theorem setCurrent_ms (t : Tracker) : (s.setCurrent t).ms = s.ms := by cases h : s.cur <;> simp [State.setCurrent, h]
@[simp] theorem setCurrent_refused (t : Tracker) : (s.setCurrent t).refused = s.refused := by cases h : s.cur <;> simp [State.setCurrent, h]
@[simp] theorem setCurrent_cfg (t : Tracker) : (s.setCurrent t).cfg = s.cfg := by cases h : s.cur <;> simp [State.setCurrent, h]
@[simp] theorem setCurrent_input (t : Tracker) : (s.setCurrent t).input = s.input := by cases h : s.cur <;> simp [State.setCurrent, h]
@[simp] theorem setCurrent_out (t : Tracker) : (s.setCurrent t).out = s.out := by cases h : s.cur <;> simp [State.setCurrent, h]
@[simp] theorem setCurrent_reply (t : Tracker) : (s.setCurrent t).reply = s.reply := by cases h : s.cur <;> simp [State.setCurrent, h]

/-! ### trackerSet -/

@[simp] theorem trackerSet_mb (id : PatternId) (errors : BitVec 8) : (trackerSet id errors s).mb = s.mb := by simp [trackerSet]
@[simp] theorem trackerSet_db (id : PatternId) (errors : BitVec 8) : (trackerSet id errors s).db = s.db := by simp [trackerSet]
@[simp] theorem trackerSet_reg (id : PatternId) (errors : BitVec 8) : (trackerSet id errors s).reg = s.reg := by simp [trackerSet]
@[simp] theorem trackerSet_cnt (id : PatternId) (errors : BitVec 8) : (trackerSet id errors s).cnt = s.cnt := by simp [trackerSet]
@[simp] theorem trackerSet_fsm (id : PatternId) (errors : BitVec 8) : (trackerSet id errors s).fsm = s.fsm := by simp [trackerSet]
@[simp] theorem trackerSet_cur (id : PatternId) (errors : BitVec 8) : (trackerSet id errors s).cur = s.cur := by simp [trackerSet]
@[simp] theorem trackerSet_lastSlot (id : PatternId) (errors : BitVec 8) : (trackerSet id errors s).lastSlot = s.lastSlot := by simp [trackerSet]
@[simp] theorem trackerSet_ms (id : PatternId) (errors : BitVec 8) : (trackerSet id errors s).ms = s.ms := by simp [trackerSet]
@[simp] theorem trackerSet_refused (id : PatternId) (errors : BitVec 8) : (trackerSet id errors s).refused = s.refused := by simp [trackerSet]
@[simp] theorem trackerSet_cfg (id : PatternId) (errors : BitVec 8) : (trackerSet id errors s).cfg = s.cfg := by simp [trackerSet]
@[simp] theorem trackerSet_input (id : PatternId) (errors : BitVec 8) : (trackerSet id errors s).input = s.input := by simp [trackerSet]
@[simp] theorem trackerSet_out (id : PatternId) (errors : BitVec 8) : (trackerSet id errors s).out = s.out := by simp [trackerSet]
@[simp] theorem trackerSet_reply (id : PatternId) (errors : BitVec 8) : (trackerSet id errors s).reply = s.reply := by simp [trackerSet]

/-! ### commandPll -/

@[simp] theorem commandPll_mb (lock : CarrierLock) : (commandPll lock s).mb = s.mb := by unfold commandPll; cases pllOffset lock <;> cases s.cfg.pllPresent <;> rfl
@[simp] theorem commandPll_db (lock : CarrierLock) : (commandPll lock s).db = s.db := by unfold commandPll; cases pllOffset lock <;> cases s.cfg.pllPresent <;> rfl
@[simp] theorem commandPll_reg (lock : CarrierLock) : (commandPll lock s).reg = s.reg := by unfold commandPll; cases pllOffset lock <;> cases s.cfg.pllPresent <;> rfl
@[simp] theorem commandPll_cnt (lock : CarrierLock) : (commandPll lock s).cnt = s.cnt := by unfold commandPll; cases pllOffset lock <;> cases s.cfg.pllPresent <;> rfl
@[simp] theorem commandPll_fsm (lock : CarrierLock) : (commandPll lock s).fsm = s.fsm := by unfold commandPll; cases pllOffset lock <;> cases s.cfg.pllPresent <;> rfl
@[simp] theorem commandPll_trk0 (lock : CarrierLock) : (commandPll lock s).trk0 = s.trk0 := by unfold commandPll; cases pllOffset lock <;> cases s.cfg.pllPresent <;> rfl
@[simp] theorem commandPll_trk1 (lock : CarrierLock) : (commandPll lock s).trk1 = s.trk1 := by unfold commandPll; cases pllOffset lock <;> cases s.cfg.pllPresent <;> rfl
@[simp] theorem commandPll_cur (lock : CarrierLock) : (commandPll lock s).cur = s.cur := by unfold commandPll; cases pllOffset lock <;> cases s.cfg.pllPresent <;> rfl
@[simp] theorem commandPll_lastSlot (lock : CarrierLock) : (commandPll lock s).lastSlot = s.lastSlot := by unfold commandPll; cases pllOffset lock <;> cases s.cfg.pllPresent <;> rfl
@[simp] theorem commandPll_ms (lock : CarrierLock) : (commandPll lock s).ms = s.ms := by unfold commandPll; cases pllOffset lock <;> cases s.cfg.pllPresent <;> rfl
@[simp] theorem commandPll_refused (lock : CarrierLock) : (commandPll lock s).refused = s.refused := by unfold commandPll; cases pllOffset lock <;> cases s.cfg.pllPresent <;> rfl
@[simp] theorem commandPll_cfg (lock : CarrierLock) : (commandPll lock s).cfg = s.cfg := by unfold commandPll; cases pllOffset lock <;> cases s.cfg.pllPresent <;> rfl
@[simp] theorem commandPll_input (lock : CarrierLock) : (commandPll lock s).input = s.input := by unfold commandPll; cases pllOffset lock <;> cases s.cfg.pllPresent <;> rfl
@[simp] theorem commandPll_reply (lock : CarrierLock) : (commandPll lock s).reply = s.reply := by unfold commandPll; cases pllOffset lock <;> cases s.cfg.pllPresent <;> rfl

/-! ### padBurst -/

@[simp] theorem padBurst_mb : (padBurst s).mb = s.mb := by unfold padBurst; split <;> rfl
@[simp] theorem padBurst_db : (padBurst s).db = s.db := by unfold padBurst; split <;> rfl
@[simp] theorem padBurst_reg : (padBurst s).reg = s.reg := by unfold padBurst; split <;> rfl
@[simp] theorem padBurst_cnt : (padBurst s).cnt = s.cnt := by unfold padBurst; split <;> rfl
@[simp] theorem padBurst_fsm : (padBurst s).fsm = s.fsm := by unfold padBurst; split <;> rfl
@[simp] theorem padBurst_trk0 : (padBurst s).trk0 = s.trk0 := by unfold padBurst; split <;> rfl
@[simp] theorem padBurst_trk1 : (padBurst s).trk1 = s.trk1 := by unfold padBurst; split <;> rfl
@[simp] theorem padBurst_cur : (padBurst s).cur = s.cur := by unfold padBurst; split <;> rfl
@[simp] theorem padBurst_lastSlot : (padBurst s).lastSlot = s.lastSlot := by unfold padBurst; split <;> rfl
@[simp] theorem padBurst_refused : (padBurst s).refused = s.refused := by unfold padBurst; split <;> rfl
@[simp] theorem padBurst_cfg : (padBurst s).cfg = s.cfg := by unfold padBurst; split <;> rfl
@[simp] theorem padBurst_input : (padBurst s).input = s.input := by unfold padBurst; split <;> rfl
@[simp] theorem padBurst_reply : (padBurst s).reply = s.reply := by unfold padBurst; split <;> rfl

/-! ### emitBurst -/

@[simp] theorem emitBurst_mb (id : PatternId) (errors : BitVec 8) (lock : CarrierLock) : (emitBurst id errors lock s).mb = s.mb := by simp [emitBurst]
@[simp] theorem emitBurst_db (id : PatternId) (errors : BitVec 8) (lock : CarrierLock) : (emitBurst id errors lock s).db = s.db := by simp [emitBurst]
@[simp] theorem emitBurst_reg (id : PatternId) (errors : BitVec 8) (lock : CarrierLock) : (emitBurst id errors lock s).reg = s.reg := by simp [emitBurst]
@[simp] theorem emitBurst_cnt (id : PatternId) (errors : BitVec 8) (lock : CarrierLock) : (emitBurst id errors lock s).cnt = 0 := by simp [emitBurst]
@[simp] theorem emitBurst_fsm (id : PatternId) (errors : BitVec 8) (lock : CarrierLock) : (emitBurst id errors lock s).fsm = s.fsm := by simp [emitBurst]
@[simp] theorem emitBurst_trk0 (id : PatternId) (errors : BitVec 8) (lock : CarrierLock) : (emitBurst id errors lock s).trk0 = s.trk0 := by simp [emitBurst]
@[simp] theorem emitBurst_trk1 (id : PatternId) (errors : BitVec 8) (lock : CarrierLock) : (emitBurst id errors lock s).trk1 = s.trk1 := by simp [emitBurst]
@[simp] theorem emitBurst_cur (id : PatternId) (errors : BitVec 8) (lock : CarrierLock) : (emitBurst id errors lock s).cur = s.cur := by simp [emitBurst]
@[simp] theorem emitBurst_lastSlot (id : PatternId) (errors : BitVec 8) (lock : CarrierLock) : (emitBurst id errors lock s).lastSlot = slotFor s.cfg id (burstValue s.mb) s.lastSlot := by simp [emitBurst]
@[simp] theorem emitBurst_ms (id : PatternId) (errors : BitVec 8) (lock : CarrierLock) : (emitBurst id errors lock s).ms = (padBurst s).ms := by simp [emitBurst]
@[simp] theorem emitBurst_refused (id : PatternId) (errors : BitVec 8) (lock : CarrierLock) : (emitBurst id errors lock s).refused = s.refused := by simp [emitBurst]
@[simp] theorem emitBurst_cfg (id : PatternId) (errors : BitVec 8) (lock : CarrierLock) : (emitBurst id errors lock s).cfg = s.cfg := by simp [emitBurst]
@[simp] theorem emitBurst_input (id : PatternId) (errors : BitVec 8) (lock : CarrierLock) : (emitBurst id errors lock s).input = s.input := by simp [emitBurst]
@[simp] theorem emitBurst_reply (id : PatternId) (errors : BitVec 8) (lock : CarrierLock) : (emitBurst id errors lock s).reply = s.reply := by simp [emitBurst]

/-! ### lossCheck -/

@[simp] theorem lossCheck_mb : (lossCheck s).mb = s.mb := by unfold lossCheck; split <;> simp only [syncLossEvent_mb]
@[simp] theorem lossCheck_db : (lossCheck s).db = s.db := by unfold lossCheck; split <;> simp only [syncLossEvent_db]
@[simp] theorem lossCheck_reg : (lossCheck s).reg = s.reg := by unfold lossCheck; split <;> simp only [syncLossEvent_reg]
@[simp] theorem lossCheck_fsm : (lossCheck s).fsm = s.fsm := by unfold lossCheck; split <;> simp only [syncLossEvent_fsm]
@[simp] theorem lossCheck_trk0 : (lossCheck s).trk0 = s.trk0 := by unfold lossCheck; split <;> simp only [syncLossEvent_trk0]
@[simp] theorem lossCheck_trk1 : (lossCheck s).trk1 = s.trk1 := by unfold lossCheck; split <;> simp only [syncLossEvent_trk1]
@[simp] theorem lossCheck_cur : (lossCheck s).cur = s.cur := by unfold lossCheck; split <;> simp only [syncLossEvent_cur]
@[simp] theorem lossCheck_lastSlot : (lossCheck s).lastSlot = s.lastSlot := by unfold lossCheck; split <;> simp only [syncLossEvent_lastSlot]
@[simp] theorem lossCheck_refused : (lossCheck s).refused = s.refused := by unfold lossCheck; split <;> simp only [syncLossEvent_refused]
@[simp] theorem lossCheck_cfg : (lossCheck s).cfg = s.cfg := by unfold lossCheck; split <;> simp only [syncLossEvent_cfg]
@[simp] theorem lossCheck_input : (lossCheck s).input = s.input := by unfold lossCheck; split <;> simp only [syncLossEvent_input]
@[simp] theorem lossCheck_reply : (lossCheck s).reply = s.reply := by unfold lossCheck; split <;> simp only [syncLossEvent_reply]

end Sys2Proof.Machine
end

