-- ==== Sys2Proof/Laws/Framer.lean ====
section
/-! SUPPORT. What the framer's operations and a step can do, once each. -/

namespace Sys2Proof.Machine

variable (s : State)

@[simp] theorem current_setCurrent (t : Tracker) : (s.setCurrent t).current = t := by
  cases h : s.cur <;> simp [State.current, State.tracker, State.setCurrent, h]

@[simp] theorem otherTracker_setCurrent (t : Tracker) : (s.setCurrent t).otherTracker = s.otherTracker := by
  cases h : s.cur <;> simp [State.otherTracker, State.tracker, State.setCurrent, TrackerSel.other, h]

/-- The PLL command is one event or none (R530, R531). -/
theorem commandPll_out (lock : CarrierLock) :
    (commandPll lock s).out =
      s.out ++ if s.cfg.pllPresent then (pllOffset lock).toList.map .pllCorrect else [] := by
  cases lock <;> cases h : s.cfg.pllPresent <;> simp [commandPll, pllOffset, State.emit, h]

/-- Padding is one sync-loss of `2·(cnt − 144)` bits or nothing (R540). -/
theorem padBurst_cases :
    (144 < s.cnt.toNat ∧ padBurst s = syncLossEvent (2 * (s.cnt.toNat - 144)) s) ∨
    (s.cnt.toNat ≤ 144 ∧ padBurst s = s) := by
  unfold padBurst
  split
  · exact .inl ⟨‹_›, rfl⟩
  · exact .inr ⟨by simp only [burstDibits] at *; omega, rfl⟩

/-- The events of `EMIT_BURST`: the padding's, then one burst stamped with the time after it (R540, R541). -/
theorem emitBurst_out (id : PatternId) (errors : BitVec 8) (lock : CarrierLock) :
    (emitBurst id errors lock s).out = (padBurst s).out ++
      [.burst ⟨burstValue s.mb, id, lock, errors, slotFor s.cfg id (burstValue s.mb) s.lastSlot,
        (padBurst s).ms⟩] := by
  simp [emitBurst]

/-- The threshold is a sync-loss of 9600 bits and 4800 dibits, or nothing (R511). -/
theorem lossCheck_cases :
    (4944 < s.cnt.toNat ∧ lossCheck s = { syncLossEvent 9600 s with cnt := s.cnt - 4800 }) ∨
    (s.cnt.toNat ≤ 4944 ∧ lossCheck s = s) := by
  unfold lossCheck
  split
  · refine .inl ⟨‹_›, ?_⟩
    simp only [syncLossEvent_cnt, lossStep, lossBits]
    rfl
  · exact .inr ⟨by simp only [lossThreshold] at *; omega, rfl⟩

/-- The three outcomes of a boundary (R521 to R524). -/
theorem boundary_cases :
    (∃ t, trackerStep s.cfg (syncFieldValue s.mb) s.current = (t, .synchronized) ∧
      boundary s = (emitBurst t.pat t.err .normal (s.setCurrent t)).toggleCurrent) ∨
    (∃ t, trackerStep s.cfg (syncFieldValue s.mb) s.current = (t, .lostSync) ∧
      s.otherTracker.isSynchronized = true ∧
      boundary s = (emitBurst .unknown 0 .normal (s.setCurrent t)).toggleCurrent) ∨
    (∃ t, trackerStep s.cfg (syncFieldValue s.mb) s.current = (t, .lostSync) ∧
      s.otherTracker.isSynchronized = false ∧
      boundary s = (returnToSearching (s.setCurrent t)).toggleCurrent) := by
  rcases h : trackerStep s.cfg (syncFieldValue s.mb) s.current with ⟨t, r⟩
  have hb : boundary s = (boundaryOutcome r (s.setCurrent t)).toggleCurrent := by simp only [boundary, h]
  cases r with
  | synchronized => exact .inl ⟨t, rfl, by simp [hb, boundaryOutcome]⟩
  | lostSync =>
    cases ho : s.otherTracker.isSynchronized with
    | true => exact .inr (.inl ⟨t, rfl, rfl, by simp [hb, boundaryOutcome, ho]⟩)
    | false => exact .inr (.inr ⟨t, rfl, rfl, by simp [hb, boundaryOutcome, ho]⟩)

/-- Everything one DIBIT step can do (R500, R520). -/
theorem dibitStep_cases (d : Dibit) :
    (s.fsm = .synchronized ∧ (s.cnt + 1).toNat < 144 ∧ dibitStep d s = receiveDibit d s) ∨
    (s.fsm = .synchronized ∧ 144 ≤ (s.cnt + 1).toNat ∧ dibitStep d s = boundary (receiveDibit d s)) ∨
    (∃ m, s.fsm = .searching ∧ matchReport (matchFeed (bufOldest s.db) (receiveDibit d s)) = some m ∧
      dibitStep d s = lossCheck (onFire m (matchFeed (bufOldest s.db) (receiveDibit d s)))) ∨
    (s.fsm = .searching ∧ matchReport (matchFeed (bufOldest s.db) (receiveDibit d s)) = none ∧
      dibitStep d s = lossCheck (matchFeed (bufOldest s.db) (receiveDibit d s))) := by
  cases hf : s.fsm with
  | synchronized =>
    have hd : dibitStep d s = synchronizedStep (receiveDibit d s) := by simp [dibitStep, hf]
    rw [hd, synchronizedStep]
    split
    · exact .inr (.inl ⟨rfl, ‹_›, rfl⟩)
    · exact .inl ⟨rfl, by simp at *; omega, rfl⟩
  | searching =>
    have hd : dibitStep d s = searchStep (bufOldest s.db) (receiveDibit d s) := by
      simp [dibitStep, hf]
    rw [hd, searchStep]
    cases hm : matchReport (matchFeed (bufOldest s.db) (receiveDibit d s)) with
    | some m => exact .inr (.inr (.inl ⟨m, rfl, rfl, rfl⟩))
    | none => exact .inr (.inr (.inr ⟨rfl, rfl, rfl⟩))

theorem dibitSteps_nil : dibitSteps [] s = s := rfl

theorem dibitSteps_cons (d : Dibit) (ds : List Dibit) : dibitSteps (d :: ds) s = dibitSteps ds (dibitStep d s) := rfl

theorem dibitSteps_append (ds es : List Dibit) : dibitSteps (ds ++ es) s = dibitSteps es (dibitSteps ds s) :=
  List.foldl_append

/-- The invariants do not look at the input port. -/
theorem State.Inv.withInput {s : State} (h : s.Inv) (ws : List TxnWord) : ({ s with input := ws } : State).Inv :=
  ⟨h.configLegal, h.searchRegister, h.searchDelay, h.searchTrackers, h.syncTracker, h.syncCount, h.searchCount,
    h.delayAgrees, h.primaryErrors, h.secondaryErrors⟩

/-- The invariants look neither at the output ports nor at the reply. -/
theorem State.Inv.withPorts {s : State} (h : s.Inv) (ws : List TxnWord) (es : List Event) (r : Option RefusalCode) :
    ({ s with input := ws, out := es, reply := r } : State).Inv :=
  ⟨h.configLegal, h.searchRegister, h.searchDelay, h.searchTrackers, h.syncTracker, h.syncCount, h.searchCount,
    h.delayAgrees, h.primaryErrors, h.secondaryErrors⟩

/-- Everything one step can do (R702, R11). -/
theorem step_cases :
    (s.cfg.wellFormed = false ∧ step s = .refused .illegalConfiguration) ∨
    (s.cfg.wellFormed = true ∧ s.input = [] ∧ step s = .next s) ∨
    (∃ w rest, s.cfg.wellFormed = true ∧ s.input = w :: rest ∧ s.refused = true ∧
      step s = .next (refuseTransaction .sticky { s with input := rest })) ∨
    (∃ w rest e, s.cfg.wellFormed = true ∧ s.input = w :: rest ∧ s.refused = false ∧ decode w = .error e ∧
      step s = .next (refuseTransaction (decodeRefusal e) { s with input := rest })) ∨
    (∃ w rest i, s.cfg.wellFormed = true ∧ s.input = w :: rest ∧ s.refused = false ∧ decode w = .txn i ∧
      step s = exec i { s with input := rest, reply := none }) := by
  cases hc : s.cfg.wellFormed with
  | false => exact .inl ⟨rfl, by simp [step, takeNext, hc]⟩
  | true =>
    cases hi : s.input with
    | nil => exact .inr (.inl ⟨rfl, rfl, by simp [step, takeNext, hc, hi]⟩)
    | cons w rest =>
      cases hr : s.refused with
      | true => exact .inr (.inr (.inl ⟨w, rest, rfl, rfl, rfl, by simp [step, takeNext, checkWord, hc, hi, hr]⟩))
      | false =>
        cases hd : decode w with
        | error e =>
          exact .inr (.inr (.inr (.inl ⟨w, rest, e, rfl, rfl, rfl, hd, by
            simp [step, takeNext, checkWord, hc, hi, hr, hd]⟩)))
        | txn i =>
          exact .inr (.inr (.inr (.inr ⟨w, rest, i, rfl, rfl, rfl, hd, by
            simp [step, takeNext, checkWord, hc, hi, hr, hd]⟩)))

end Sys2Proof.Machine
end

