-- ==== Sys2Proof/Laws/PerInstr.lean ====
section
/-! SUPPORT. Laws stated for every transaction, one lemma per constructor. -/

namespace Sys2Proof.Laws

/-- The op code of rule R301. -/
def opcode : Instr → BitVec 3
  | .dibit _ => 1
  | .byte _ => 2
  | .timeHint _ => 3
  | .reset => 4

/-- The operand, zero-extended to the data field (R302). -/
def operand : Instr → BitVec 64
  | .dibit d => d.zeroExtend 64
  | .byte b => b.zeroExtend 64
  | .timeHint t => t
  | .reset => 0

/-- The bits of a word: `data` below `op` (R300). -/
theorem wordOf_getLsbD (op : BitVec 3) (data : BitVec 64) (i : Nat) :
    (wordOf op data).getLsbD i = if i < 64 then data.getLsbD i else op.getLsbD (i - 64) :=
  BitVec.getLsbD_append

theorem opField_wordOf (op : BitVec 3) (data : BitVec 64) : opField (wordOf op data) = op := by
  apply BitVec.eq_of_getLsbD_eq
  intro i hi
  simp [opField, wordOf_getLsbD, hi]

theorem dataField_wordOf (op : BitVec 3) (data : BitVec 64) : dataField (wordOf op data) = data := by
  apply BitVec.eq_of_getLsbD_eq
  intro i hi
  simp [dataField, wordOf_getLsbD, hi]

/-- The fields of a transaction's word: its op code in `w[66:64]` and its operand, zero-extended, in `w[63:0]` (R300 to
R302). -/
def EncodeLayout.Statement (i : Instr) : Prop :=
  i.wellFormed = true → opField (encode i) = opcode i ∧ dataField (encode i) = operand i

theorem EncodeLayout.dibit (d : Dibit) : EncodeLayout.Statement (.dibit d) :=
  fun _ => ⟨opField_wordOf _ _, dataField_wordOf _ _⟩

theorem EncodeLayout.byte (b : Byte) : EncodeLayout.Statement (.byte b) :=
  fun _ => ⟨opField_wordOf _ _, dataField_wordOf _ _⟩

theorem EncodeLayout.timeHint (t : Millis) : EncodeLayout.Statement (.timeHint t) :=
  fun _ => ⟨opField_wordOf _ _, dataField_wordOf _ _⟩

theorem EncodeLayout.reset : EncodeLayout.Statement .reset :=
  fun _ => ⟨opField_wordOf _ _, dataField_wordOf _ _⟩

end Sys2Proof.Laws
end

