-- ==== Sys2Proof/Tests/Slice0.lean ====
section
/-! SUPPORT. Tests on fixed values, each from the vectors or the rules of spec/, and a witness for the hypotheses of every
statement that has any. -/

namespace Sys2Proof.Tests

open Sys2Proof.Machine

/-! ### Small states -/

/-- A buffer with these dibits, cut or filled with zeros at the new end. -/
def bufferOf (n : Nat) (ds : List Dibit) : DibitDelayBuffer n :=
  ⟨(ds ++ List.replicate n 0).take n, by simp⟩

/-- The 144 dibits before the last dibit of a burst whose sync field is `w` and whose other dibits are 0. -/
def slotBut1 (w : SyncWord) : DibitDelayBuffer 144 := bufferOf 144 (List.replicate 67 0 ++ syncWordDibits w)

/-- A searching instance whose matcher sees `w` at the next dibit, which is the `count + 1`-th counted one. -/
def beforeMatch (c : Config) (w : SyncWord) (count : BitVec 32) : State :=
  { State.powerOn c with
    mb := slotBut1 w, db := bufferOf 54 [w.extractLsb' 0 2], reg := w >>> 2, cnt := count }

/-- A synchronized instance one dibit before a boundary that examines the sync field `w`. -/
def beforeBoundary (w : SyncWord) (current other : Tracker) : State :=
  { State.powerOn .default with
    mb := slotBut1 w, db := bufferOf 54 [w.extractLsb' 0 2], cnt := 143, fsm := .synchronized,
    trk0 := current, trk1 := other }

/-- An instance with these words at its port. -/
def withWords (ws : List TxnWord) : State := { State.reset with input := ws }

/-- The state of a next outcome. -/
def after (o : Host.Outcome State Fault Refusal) : Option State :=
  match o with
  | .next t => some t
  | .fault _ => none
  | .refused _ => none

/-- The header of a burst, without its bits. -/
def header : Event → Option (PatternId × CarrierLock × BitVec 8 × Slot × Millis)
  | .burst b => some (b.sync, b.lock, b.errors, b.slot, b.tsMs)
  | .syncLoss _ _ => none
  | .pllCorrect _ => none

/-! ### Well-formedness: an ill-formed configuration for each check (R10, R11) -/

theorem test_config_default_legal : Config.default.wellFormed = true := by decide
theorem test_config_search_threshold_zero : ({ Config.default with searchThreshold := 0 }).wellFormed = false := by decide
theorem test_config_search_threshold_25 : ({ Config.default with searchThreshold := 25 }).wellFormed = false := by decide
theorem test_config_threshold_ends_legal :
    ({ Config.default with searchThreshold := 1, syncThreshold := 24 }).wellFormed = true := by decide
theorem test_config_sync_threshold_25 : ({ Config.default with syncThreshold := 25 }).wellFormed = false := by decide
theorem test_config_no_listener : ({ Config.default with listenerPresent := false }).wellFormed = false := by decide
theorem test_config_order_short : ({ Config.default with tableOrder := realPatterns.tail }).wellFormed = false := by decide
theorem test_config_order_late_first :
    ({ Config.default with tableOrder := [.bsData, .bsVoice, .msData, .directD0, .msVoice, .directD1, .directV0,
      .directV1, .msReverse, .reserved] }).wellFormed = false := by decide
theorem test_config_order_reverse_first :
    ({ Config.default with tableOrder := [.msReverse, .bsVoice, .bsData, .msData, .msVoice, .reserved, .directD1,
      .directV0, .directV1, .directD0] }).wellFormed = true := by decide

/-! ### Decoding: words written out from R300 to R302, `op` then `data` -/

theorem test_decode_dibit : decode (0b001#3 ++ 0#62 ++ 0b10#2) = .txn (.dibit 2) := by decide
theorem test_decode_byte : decode (0b010#3 ++ 0#56 ++ 0b11011000#8) = .txn (.byte 0xD8) := by decide
theorem test_decode_timeHint : decode (0b011#3 ++ 0x8000000000000001#64) = .txn (.timeHint 0x8000000000000001) := by decide
theorem test_decode_reset : decode (0b100#3 ++ 0#64) = .txn .reset := by decide
theorem test_decode_reserved_ops :
    [0x0, 0x5, 0x6, 0x7].map (fun op => decode (BitVec.ofNat 3 op ++ 0#64)) =
      List.replicate 4 (.error .reservedOp) := by decide
theorem test_decode_nonzero_fields :
    [0x10000000000000004, 0x20000000000000100, 0x40000000000000001].map (fun w => decode (BitVec.ofNat 67 w)) =
      List.replicate 3 (.error .nonzeroField) := by decide
theorem test_table_words :
    decodeTableWord 72 0x10000000000000003 = some (.dibit 3) ∧ decodeTableWord 72 0x200000000000000FF = some (.byte 0xFF) ∧
    decodeTableWord 72 0x3FFFFFFFFFFFFFFFF = some (.timeHint 0xFFFFFFFFFFFFFFFF) ∧
    decodeTableWord 72 0x40000000000000000 = some .reset ∧ decodeTableWord 72 0x50000000000000000 = none := by decide

/-! ### Transactions from power-on (95_test_vectors.md section 6, R500, R650, R610, R802) -/

theorem test_step_dibit :
    (after (step (State.reset.withFetchWord 72 0x10000000000000003))).map
      (fun t => (bufGet t.mb 143, bufGet t.db 53, t.cnt, t.reg, t.out)) = some (3, 3, 1, 0, []) := by decide +kernel
theorem test_step_byte :
    (after (step (State.reset.withFetchWord 72 0x200000000000000D8))).map
      (fun t => (bufSlice t.mb 140 4, t.cnt, t.out)) = some ([3, 1, 2, 0], 4, []) := by decide +kernel
theorem test_step_timeHint :
    after (step (State.reset.withFetchWord 72 0x300000000000003E8)) = some { State.reset with ms := 1000 } := by
  decide +kernel
theorem test_step_reset_keeps_clock :
    after (exec .reset { beforeMatch .default 0xDFF57D75DF5D 343 with ms := 777 }) =
      some { State.reset with ms := 777 } := by decide +kernel
theorem test_step_reserved_op :
    after (step (withWords [0, 0x10000000000000000])) =
      some { State.reset with refused := true, reply := some .reservedOp, input := [0x10000000000000000] } := by
  decide +kernel
theorem test_step_sticky :
    after (step { withWords [0x40000000000000000] with refused := true }) =
      some { State.reset with refused := true, reply := some .sticky } := by decide +kernel

/-! ### Comparators, ROM and tracker (95_test_vectors.md sections 2 and 3) -/

theorem test_search_at_threshold :
    searchCompare realPatterns 0xDFF57D75DF5A 3 = some ⟨.bsData, .normal, 3⟩ ∧
    searchCompare realPatterns 0xDFF57D75DF52 3 = none := by decide +kernel
theorem test_search_rotated :
    searchCompare realPatterns 0x151404401454 3 = some ⟨.msVoice, .minus90, 0⟩ ∧
    searchCompare realPatterns 0x22800A28A822 3 = some ⟨.reserved, .inverted, 0⟩ ∧
    searchCompare realPatterns 0xBAAFEBEFBAFA 3 = none := by decide +kernel
theorem test_search_threshold_24 :
    searchCompare realPatterns 0xBAAFEBEFBAFB 24 = some ⟨.bsData, .normal, 24⟩ ∧
    searchCompare realPatterns 0xBAAFEBEFBAFB 23 = some ⟨.bsData, .plus90, 0⟩ := by decide +kernel
theorem test_search_table_order :
    searchCompare realPatterns 0xF7FDD5D55D5F 5 = some ⟨.directD0, .normal, 5⟩ ∧
    searchCompare [.bsData, .bsVoice, .msData, .msVoice, .directV1, .directV0, .directD1, .directD0, .msReverse,
      .reserved] 0xF7FDD5D55D5F 5 = some ⟨.directV1, .normal, 5⟩ := by decide +kernel
theorem test_shift_register : shiftRegister 0x37FD5F5D77D7 1 = 0xDFF57D75DF5D := by decide
theorem test_lookup : lookup 0x200A828A20A2 = (.bsData, .inverted) ∧ lookup 0 = (.unknown, .normal) := by decide +kernel
theorem test_sync_exact_first :
    syncCompare realPatterns 0xD7557F5FF7F5 10 = some ⟨.directD1, .normal, 0⟩ ∧
    syncCompare realPatterns 0x7F7D5DD57DC2 6 = some ⟨.msVoice, .normal, 6⟩ ∧
    syncCompare realPatterns 0xBAAFEBEFBAFB 23 = none := by decide +kernel
theorem test_tracker_chain :
    trackerStep .default 0 ⟨.voiceEBs, 0⟩ = (⟨.voiceFBs, 0⟩, .synchronized) ∧
    trackerStep .default 0 ⟨.directV1, 2⟩ = (⟨.voiceBMs, 0⟩, .synchronized) ∧
    trackerStep .default 0 ⟨.voiceFMs, 0⟩ = (⟨.unknown, 0⟩, .lostSync) ∧
    trackerStep .default 0xDFF57D75DF5D ⟨.voiceCBs, 0⟩ = (⟨.bsData, 0⟩, .synchronized) := by decide +kernel
theorem test_round :
    [0, 2, 6, 24, 72, 268, 400, 404, 9600, 9602].map roundMillis = [0, 0, 1, 3, 8, 28, 42, 42, 1000, 1000] := by decide

/-! ### The framer (95_test_vectors.md sections 1 and 4) -/

/-- Section 1.1: padding of 400 bits, then the burst at 42 ms. -/
theorem test_fire_clean :
    let t := dibitStep 0 (beforeMatch .default 0xDFF57D75DF5D 343)
    t.out.map Event.dibits = [200, 144] ∧ t.out.map header = [none, some (.bsData, .normal, 0, .slot0, 42)] := by
  decide +kernel
/-- Section 1.5: a +90° lock commands −1200 Hz and the burst is repaired. -/
theorem test_fire_rotated :
    let t := dibitStep 0 (beforeMatch .default 0xBAAFEBEFBAFB 77)
    t.out.head? = some (.pllCorrect 0xFB50) ∧ syncFieldValue t.mb = 0xDFF57D75DF5D ∧ bufGet t.mb 0 = 2 ∧
      t.cur = .primary ∧ t.fsm = .synchronized := by decide +kernel
/-- Section 1.5 without a PLL: the same burst, no command. -/
theorem test_fire_rotated_no_pll :
    let t := dibitStep 0 (beforeMatch { Config.default with pllPresent := false } 0xBAAFEBEFBAFB 77)
    t.out.map header = [some (.bsData, .plus90, 0, .slot0, 0)] ∧ syncFieldValue t.mb = 0xDFF57D75DF5D := by
  decide +kernel
/-- Section 5: the CACH word C00000 decodes to slot 1 under the test-only decoder. -/
theorem test_fire_cach :
    slotFor { Config.default with cachDecode := [(0xC00000, .slot1)] } .bsData (0xC00000#24 ++ 0#264) .slot1 = .slot1 ∧
    slotFor { Config.default with cachDecode := [(0xC00000, .slot1)] } .bsData 0 .slot1 = .slot0 ∧
    slotFor { Config.default with cachDecode := [(0xC00000, .slot1)] } .msData (0xC00000#24 ++ 0#264) .slot1 = .slot0 := by
  decide +kernel
/-- Section 4, P4: a soft match at a boundary, 5 errors, and the toggle. -/
theorem test_boundary_soft :
    let t := dibitStep 0 (beforeBoundary 0xDFF57D75DF42 .lost ⟨.bsVoice, 0⟩)
    t.out.map header = [some (.bsData, .normal, 5, .slot0, 0)] ∧ t.trk0 = ⟨.bsData, 5⟩ ∧ t.cur = .secondary := by
  decide +kernel
/-- Section 4, P4: 7 errors lose a data tracker; the other is synchronized, so the burst is a placeholder. -/
theorem test_boundary_placeholder :
    let t := dibitStep 0 (beforeBoundary 0xDFF57D75DF22 ⟨.bsData, 5⟩ ⟨.bsVoice, 0⟩)
    t.out.map header = [some (.unknown, .normal, 0, .slot0, 0)] ∧ t.trk0 = .lost ∧ t.cnt = 0 := by decide +kernel
/-- Section 1.1, dibit 487: both trackers lost, no event, the counter stays at 144 and the register is reloaded. -/
theorem test_boundary_return :
    let t := dibitStep 0 (beforeBoundary 0xDFF57D75DF22 ⟨.bsData, 0⟩ .lost)
    t.out = [] ∧ t.fsm = .searching ∧ t.cnt = 144 ∧ t.cur = .secondary ∧ t.reg = 0xDFF57D75DF22 := by decide +kernel
/-- Section 5: a threshold sync-loss near the end of the clock wraps it. -/
theorem test_threshold_wraps_clock :
    let t := dibitStep 2 { State.reset with cnt := 4944, ms := 0xFFFFFFFFFFFFFFF0 }
    t.out = [.syncLoss 9600 0xFFFFFFFFFFFFFFF0] ∧ t.ms = 0x3D8 ∧ t.cnt = 145 := by decide +kernel
/-- A searching instance whose 4945th counted dibit passes the threshold and whose 4946th completes the rotated `w`. -/
def beforeThresholdAndFire (w : SyncWord) : State :=
  { State.reset with
    mb := bufferOf 144 (List.replicate 68 0 ++ syncWordDibits w),
    db := bufferOf 54 [w.extractLsb' 2 2, w.extractLsb' 0 2], reg := w >>> 4, cnt := 4944 }

/-- R650's example, "a threshold event at one dibit and a matcher fire at the next": the fire is rotated and padded, so one
BYTE emits four events (log entry 13). -/
theorem test_byte_four_events :
    (after (exec (.byte 0) (beforeThresholdAndFire 0xBAAFEBEFBAFB))).map (fun t => t.out.map Event.dibits) =
      some [4800, 0, 2, 144] := by decide +kernel

/-! ### Assembly (R340 to R342) -/

theorem test_assemble_rept :
    assemble [".rept 2".toList, "  BYTE 0xDF ; sync".toList, ".endr".toList, "RECEIVE_BUFFER 1000, 1, 0x02".toList] =
      some [.byte 0xDF, .byte 0xDF, .timeHint 1000, .byte 1, .byte 2] := by decide +kernel
theorem test_assemble_refuses :
    assemble ["DIBIT 4".toList] = none ∧ assemble ["RESET 0".toList] = none ∧ assemble [".rept 2".toList] = none := by
  decide +kernel

/-! ### Witnesses: states and operands that meet a statement's hypotheses -/

/-- A searching state that meets the invariants, one dibit before a fire. -/
theorem witness_inv_searching (count : BitVec 32) (h : count.toNat ≤ 4944) :
    (beforeMatch .default 0xDFF57D75DF5D count).Inv where
  configLegal := by show Config.default.wellFormed = true; decide
  searchRegister := fun _ => by
    show 0xDFF57D75DF5D#48 >>> 2 = syncFieldValue (slotBut1 0xDFF57D75DF5D)
    decide +kernel
  searchDelay := fun _ => by show (bufferOf 54 _).slots = (slotBut1 0xDFF57D75DF5D).slots.drop 90; decide +kernel
  searchTrackers := fun _ => ⟨rfl, rfl⟩
  syncTracker := fun h => by cases h
  syncCount := fun h => by cases h
  searchCount := fun _ => h
  delayAgrees := fun h => by cases h
  primaryErrors := ⟨Nat.zero_le _, fun _ => rfl⟩
  secondaryErrors := ⟨Nat.zero_le _, fun _ => rfl⟩

/-- A synchronized state that meets the invariants, one dibit before a boundary. -/
theorem witness_inv_synchronized : (beforeBoundary 0xDFF57D75DF42 ⟨.bsVoice, 3⟩ .lost).Inv where
  configLegal := by decide
  searchRegister := fun h => by cases h
  searchDelay := fun h => by cases h
  searchTrackers := fun h => by cases h
  syncTracker := fun _ => .inl (by decide)
  syncCount := fun _ => by decide
  searchCount := fun h => by cases h
  delayAgrees := fun _ => by
    show (bufferOf 54 _).slots.drop 0 = (slotBut1 0xDFF57D75DF42).slots.drop 90
    decide +kernel
  primaryErrors := ⟨by decide, fun h => by simp [beforeBoundary, PatternId.isContinuation] at h⟩
  secondaryErrors := ⟨by decide, fun _ => rfl⟩

/-- The state of `test_byte_four_events` meets the invariants. -/
theorem witness_inv_four_events : (beforeThresholdAndFire 0xBAAFEBEFBAFB).Inv where
  configLegal := by decide
  searchRegister := fun _ => by
    show 0xBAAFEBEFBAFB#48 >>> 4 = syncFieldValue (bufferOf 144 _)
    decide +kernel
  searchDelay := fun _ => by
    show (bufferOf 54 _).slots = (bufferOf 144 _).slots.drop 90
    decide +kernel
  searchTrackers := fun _ => ⟨rfl, rfl⟩
  syncTracker := fun h => by cases h
  syncCount := fun h => by cases h
  searchCount := fun _ => by decide
  delayAgrees := fun h => by cases h
  primaryErrors := ⟨Nat.zero_le _, fun _ => rfl⟩
  secondaryErrors := ⟨Nat.zero_le _, fun _ => rfl⟩

/-- A searching state with the word `DIBIT 0` at its port. -/
def oneDibitAtPort : State :=
  { beforeMatch .default 0xDFF57D75DF5D 343 with input := [encode (.dibit 0)] }

/-- A state that meets the invariants, has emitted only sound bursts and has a next state. -/
theorem witness_step_from_invariant :
    oneDibitAtPort.Inv ∧ (∀ b, Event.burst b ∈ oneDibitAtPort.out → b.sound) ∧
      step oneDibitAtPort = .next (dibitStep 0 (beforeMatch .default 0xDFF57D75DF5D 343)) := by
  refine ⟨(witness_inv_searching 343 (by decide)).withInput _, ?_, rfl⟩
  intro b hb
  have hout : oneDibitAtPort.out = [] := rfl
  rw [hout] at hb
  cases hb

/-- A BYTE step with no burst. -/
theorem witness_byte_unrotated :
    ∀ e, Event.burst e ∈ eventsSince State.reset (dibitSteps (byteDibits 0xD8) State.reset) → e.lock = .normal := by
  have h : eventsSince State.reset (dibitSteps (byteDibits 0xD8) State.reset) = [] := by decide +kernel
  intro e he
  rw [h] at he
  cases he

theorem witness_reset_next (s : State) : exec .reset s = .next (resetState s) := rfl

theorem witness_round_trip : (Instr.timeHint 5).wellFormed = true := rfl
theorem witness_legal_word : decode 0x10000000000000003#67 = .txn (.dibit 3) := by decide
theorem witness_step_runs :
    (withWords [0x10000000000000003]).cfg.wellFormed = true ∧ (withWords [0x10000000000000003]).refused = false ∧
    (withWords [0x10000000000000003]).input = [0x10000000000000003] ∧ decode 0x10000000000000003#67 = .txn (.dibit 3) := by
  decide
theorem witness_refused_word :
    (withWords [0, 1]).cfg.wellFormed = true ∧ (withWords [0, 1]).refused = false ∧ (withWords [0, 1]).input = [0, 1] ∧
    decode 0#67 = .error .reservedOp ∧ (withWords [0x10000000000000004]).input = [0x10000000000000004] ∧
    decode 0x10000000000000004#67 = .error .nonzeroField := by decide
theorem witness_sticky :
    let s := { withWords [5] with refused := true }
    s.cfg.wellFormed = true ∧ s.refused = true ∧ 0 < 1 ∧ s.input ≠ [] := by decide
theorem witness_instance_steps : State.reset.cfg.wellFormed = true ∧ State.reset.input = [] := by decide
theorem witness_illegal_configuration :
    ({ Config.default with syncThreshold := 0 }).wellFormed = false ∧
    ({ Config.default with syncThreshold := 24 }).wellFormed = true ∧
    (State.powerOn { Config.default with syncThreshold := 0 }).cfg.wellFormed = false := by decide
theorem witness_step_next : step State.reset = .next State.reset ∧ ({ State.reset with refused := true }).refused = true :=
  ⟨rfl, rfl⟩
theorem witness_time_hint_at_port :
    (withWords [3#3 ++ 7#64]).cfg.wellFormed = true ∧ (withWords [3#3 ++ 7#64]).refused = false ∧
    (withWords [3#3 ++ 7#64]).input = [3#3 ++ 7#64] := by decide
theorem witness_byte_at_port :
    (withWords [2#3 ++ 0#56 ++ 0xD8#8]).cfg.wellFormed = true ∧ (withWords [2#3 ++ 0#56 ++ 0xD8#8]).refused = false ∧
    (withWords [2#3 ++ 0#56 ++ 0xD8#8]).input = [2#3 ++ 0#56 ++ 0xD8#8] := by decide
/-- 142 counted dibits: the next is the last one inside the slot. -/
theorem witness_inside_slot :
    let s := { beforeBoundary 0 .lost ⟨.bsVoice, 0⟩ with cnt := 142 }
    s.fsm = .synchronized ∧ s.cnt.toNat + 1 < 144 := by decide
/-- 4943 counted dibits and no match: the last one below the threshold. -/
theorem witness_searching_no_match :
    let s := { State.reset with cnt := 4943 }
    s.fsm = .searching ∧ s.cnt.toNat + 1 ≤ 4944 ∧
    searchCompare s.cfg.tableOrder (shiftRegister s.reg (bufOldest s.db)) s.cfg.searchThreshold = none := by
  decide +kernel
theorem witness_threshold :
    let s := { State.reset with cnt := 4944 }
    s.fsm = .searching ∧ s.cnt.toNat + 1 = 4945 ∧
    searchCompare s.cfg.tableOrder (shiftRegister s.reg (bufOldest s.db)) s.cfg.searchThreshold = none := by
  decide +kernel
/-- A fire at the 4945th counted dibit, where the threshold would be passed. -/
theorem witness_fire :
    let s := beforeMatch .default 0x8AA028208A08 4944
    s.fsm = .searching ∧ s.cnt.toNat + 1 ≤ 4945 ∧
    searchCompare s.cfg.tableOrder (shiftRegister s.reg (bufOldest s.db)) s.cfg.searchThreshold =
      some ⟨.bsVoice, .inverted, 0⟩ := by decide +kernel
theorem witness_boundary_match :
    let s := beforeBoundary 0xDFF57D75DF42 .lost ⟨.bsVoice, 0⟩
    s.fsm = .synchronized ∧ s.cnt.toNat + 1 = 144 ∧
    syncCompare s.cfg.tableOrder (syncFieldValue (bufPut s.mb 0)) s.cfg.syncThreshold = some ⟨.bsData, .normal, 5⟩ := by
  decide +kernel
theorem witness_boundary_predicted :
    let s := beforeBoundary 0 ⟨.voiceEBs, 0⟩ .lost
    s.fsm = .synchronized ∧ s.cnt.toNat + 1 = 144 ∧
    syncCompare s.cfg.tableOrder (syncFieldValue (bufPut s.mb 0)) s.cfg.syncThreshold = none ∧
    nextVoice s.current.pat = some .voiceFBs := by decide +kernel
theorem witness_boundary_placeholder :
    let s := beforeBoundary 0xDFF57D75DF22 ⟨.voiceFBs, 0⟩ ⟨.msData, 1⟩
    s.fsm = .synchronized ∧ s.cnt.toNat + 1 = 144 ∧
    syncCompare s.cfg.tableOrder (syncFieldValue (bufPut s.mb 0)) s.cfg.syncThreshold = none ∧
    nextVoice s.current.pat = none ∧ s.otherTracker.pat ≠ .unknown := by decide +kernel
theorem witness_boundary_return :
    let s := beforeBoundary 0xDFF57D75DF22 ⟨.bsData, 0⟩ .lost
    s.fsm = .synchronized ∧ s.cnt.toNat + 1 = 144 ∧
    syncCompare s.cfg.tableOrder (syncFieldValue (bufPut s.mb 0)) s.cfg.syncThreshold = none ∧
    nextVoice s.current.pat = none ∧ s.otherTracker.pat = .unknown := by decide +kernel
theorem witness_search_answers :
    searchCompare realPatterns 0xDFF57D75DF5A 3 = some ⟨.bsData, .normal, 3⟩ ∧
    searchCompare realPatterns 0xBAAFEBEFBAFB 3 = some ⟨.bsData, .plus90, 0⟩ := by decide +kernel
theorem witness_sync_answers :
    syncCompare realPatterns 0x7F7D5DD57DC2 6 = some ⟨.msVoice, .normal, 6⟩ := by decide +kernel
theorem witness_rotated :
    orderIsPermutation realPatterns = true ∧ 23 ≤ 23 ∧ CarrierLock.plus90 ≠ .normal ∧
    (rom .bsData).canonical = some 0xDFF57D75DF5D := by decide
theorem witness_two_orders :
    orderIsPermutation realPatterns = true ∧ orderIsPermutation realPatterns.reverse = true ∧ 4 ≤ 4 := by decide
theorem witness_threshold_24 : 24 ≤ 24 := by decide
theorem witness_lookup :
    PatternId.msData ≠ .unknown ∧
    ∀ id ∈ allPatternIds, ∀ lock ∈ [CarrierLock.normal, .plus90, .minus90, .inverted], romWord lock id ≠ some 0 := by
  decide +kernel
/-- A reserved code at the low end of its range. -/
theorem witness_reserved_code : 21 ≤ (21 : BitVec 5).toNat := by decide
theorem witness_buffer_size : 0 < 144 ∧ 0 + 1 < 144 ∧ 142 + 1 < 144 := by decide
/-- The last window inside a buffer and the first one outside. -/
theorem witness_windows : 66 + 78 ≤ 144 ∧ 144 < 66 + 79 := by decide
theorem witness_pack : 0 < ([3, 1] : List Dibit).length ∧ 1 < ([3, 1] : List Dibit).length := by decide
theorem witness_burst_bytes : 143 < 144 ∧ 35 < 36 := by decide
theorem witness_pseudo_sync : (rom .msVoice).canonical = some 0x7F7D5DD57DFD ∧ PatternId.unknown.isReal = false := by decide
/-- The first and the last dibit of a rotated word, from R314's row of BS_DATA. -/
theorem witness_rotated_dibits : 0 < 24 ∧ 23 < 24 ∧ rotWord .plus90 0xDFF57D75DF5D = 0xBAAFEBEFBAFB ∧
    rotWord .minus90 0xDFF57D75DF5D = 0x455014104504 := by decide +kernel
/-- Six different sync fields, none of which matches. -/
theorem witness_voice_chain :
    ∀ k < 6, syncCompare Config.default.tableOrder (BitVec.ofNat 48 k) Config.default.syncThreshold = none := by
  decide +kernel
theorem witness_dibit_next (d : Dibit) (s : State) : exec (.dibit d) s = .next (dibitStep d s) := rfl
theorem witness_byte_next (b : Byte) (s : State) : exec (.byte b) s = .next (dibitSteps (byteDibits b) s) := rfl
theorem witness_register_frozen :
    let s := beforeBoundary 0 ⟨.bsVoice, 0⟩ .lost
    ∀ n ≤ [(0 : Dibit)].length, (dibitSteps ([0].take n) s).fsm = .synchronized := by decide +kernel
/-- A step with no burst, a burst whose CACH decodes, a burst with a direct slot, and a burst that toggles. -/
theorem witness_burst_slots :
    (∀ e ∈ eventsSince State.reset (dibitStep 0 State.reset), e.isBurst = false) ∧
    (let c := { Config.default with cachDecode := [(0, .slot1)] }
     ∃ b, Event.burst b ∈ eventsSince (beforeMatch c 0xDFF57D75DF5D 143) (dibitStep 0 (beforeMatch c 0xDFF57D75DF5D 143)) ∧
       (rom b.sync).hasCach = true ∧ c.cachDecode.lookup (b.bits.extractLsb' 264 24) = some .slot1) ∧
    (∃ b, Event.burst b ∈ eventsSince (beforeMatch .default 0xD7557F5FF7F5 143)
        (dibitStep 0 (beforeMatch .default 0xD7557F5FF7F5 143)) ∧
       (rom b.sync).hasCach = false ∧ directSlot b.sync = some .slot1) ∧
    (∃ b, Event.burst b ∈ eventsSince (beforeMatch .default 0xDFF57D75DF5D 143)
        (dibitStep 0 (beforeMatch .default 0xDFF57D75DF5D 143)) ∧
       (rom b.sync).hasCach = true ∧ Config.default.cachDecode.lookup (b.bits.extractLsb' 264 24) = none ∧
       directSlot b.sync = none) := by
  refine ⟨by decide +kernel, ⟨⟨0xDFF57D75DF5D <<< 108, .bsData, .normal, 0, .slot1, 0⟩, by decide +kernel⟩,
    ⟨⟨0xD7557F5FF7F5 <<< 108, .directD1, .normal, 0, .slot1, 0⟩, by decide +kernel⟩,
    ⟨⟨0xDFF57D75DF5D <<< 108, .bsData, .normal, 0, .slot0, 0⟩, by decide +kernel⟩⟩
theorem witness_pll_absent :
    (beforeMatch { Config.default with pllPresent := false } 0xBAAFEBEFBAFB 77).cfg.pllPresent = false ∧
    Event.pllCorrect 0xFB50 ∈ eventsSince (beforeMatch .default 0xBAAFEBEFBAFB 77)
      (dibitSteps [0] (beforeMatch .default 0xBAAFEBEFBAFB 77)) := by decide +kernel
theorem witness_stream_unrotated :
    ∀ b, Event.burst b ∈ eventsSince State.reset (dibitSteps [1, 2] State.reset) → b.lock = .normal := by
  have h : eventsSince State.reset (dibitSteps [1, 2] State.reset) = [] := by decide +kernel
  intro b hb
  rw [h] at hb
  cases hb
/-- Both clauses of conservation, the second at a fire and where the two meet, the 144th counted dibit. -/
theorem witness_conservation :
    (beforeMatch .default 0xDFF57D75DF5D 143).Inv ∧ 143 ≤ (beforeMatch .default 0xDFF57D75DF5D 143).cnt.toNat ∧
    (beforeMatch .default 0xDFF57D75DF5D 143).cnt.toNat + 1 ≤ 144 ∧
    (beforeMatch .default 0xDFF57D75DF5D 77).Inv ∧ (beforeMatch .default 0xDFF57D75DF5D 77).cnt.toNat + 1 ≤ 144 ∧
    (dibitStep 0 (beforeMatch .default 0xDFF57D75DF5D 77)).fsm = .synchronized :=
  ⟨witness_inv_searching 143 (by decide), by decide, by decide, witness_inv_searching 77 (by decide), by decide,
    by decide +kernel⟩
/-- One slot of 144 zero dibits after a voice burst: the framer is synchronized at both of its boundaries. -/
theorem witness_one_slot :
    let s := { beforeBoundary 0 ⟨.bsVoice, 0⟩ .lost with cnt := 0 }
    s.fsm = .synchronized ∧ s.cnt = 0 ∧ (List.replicate 144 (0 : Dibit)).length = 144 * 1 ∧
    (dibitSteps ((List.replicate 144 (0 : Dibit)).take (144 * 0)) s).fsm = .synchronized ∧
    (dibitSteps ((List.replicate 144 (0 : Dibit)).take (144 * 1)) s).fsm = .synchronized := by decide +kernel
theorem witness_no_early_fire :
    Config.default.wellFormed = true ∧ (List.replicate 74 (0 : Dibit)).length < 78 - Config.default.searchThreshold ∧
    (List.replicate 74 (0 : Dibit)).length < 76 := by decide

end Sys2Proof.Tests
end

/-! SUPPORT. Statements of 00_scope.md: where packing puts each dibit (R21), and which configurations have an instance
(R10, R11, R800). -/

namespace Sys2Proof.Machine

/-! ### Packing -/

/-- Bits cut out of a packed number: dibits after the cut fall below it, dibits before it stand above it (R21). -/
theorem packNat_middle (xs ys zs : List Dibit) :
    packNat (xs ++ ys ++ zs) / 4 ^ zs.length % 4 ^ ys.length = packNat ys := by
  have below : packNat (xs ++ ys ++ zs) / 4 ^ zs.length = packNat (xs ++ ys) := by
    rw [packNat_append, Nat.mul_comm, Nat.mul_add_div (by positivity), Nat.div_eq_of_lt (packNat_lt zs), Nat.add_zero]
  rw [below, packNat_append, Nat.mul_add_mod_self_right, Nat.mod_eq_of_lt (packNat_lt ys)]

theorem two_pow_two_mul_length (ds : List Dibit) : 2 ^ (2 * ds.length) = 4 ^ ds.length := Nat.pow_mul 2 2 _

/-- A packed sequence that fits its width loses nothing (R21). -/
theorem toNat_pack {w : Nat} {ds : List Dibit} (fits : 2 * ds.length ≤ w) : (pack w ds).toNat = packNat ds := by
  have bound : packNat ds < 2 ^ w :=
    calc packNat ds < 4 ^ ds.length := packNat_lt ds
      _ = 2 ^ (2 * ds.length) := (two_pow_two_mul_length ds).symm
      _ ≤ 2 ^ w := Nat.pow_le_pow_right (by decide) fits
  rw [pack, BitVec.toNat_ofNat, Nat.mod_eq_of_lt bound]

/-- The bits of consecutive dibits inside a packed sequence are those dibits, packed (R21). -/
theorem extractLsb'_pack_middle {w : Nat} (xs ys zs : List Dibit) (fits : 2 * (xs ++ ys ++ zs).length ≤ w) :
    (pack w (xs ++ ys ++ zs)).extractLsb' (2 * zs.length) (2 * ys.length) = pack (2 * ys.length) ys := by
  apply BitVec.eq_of_toNat_eq
  rw [BitVec.extractLsb'_toNat, toNat_pack fits, toNat_pack le_rfl, Nat.shiftRight_eq_div_pow,
    two_pow_two_mul_length, two_pow_two_mul_length, packNat_middle]

theorem pack_singleton (d : Dibit) : pack 2 [d] = d := by
  simp [pack, packNat]

/-- Dibit `i` of a packed sequence has the `n - 1 - i` dibits after it below it (R21). -/
theorem extractLsb'_pack_dibit {w i : Nat} {ds : List Dibit} (fits : 2 * ds.length ≤ w) (hi : i < ds.length) :
    (pack w ds).extractLsb' (2 * ds.length - 2 - 2 * i) 2 = ds[i] := by
  have around : ds.take i ++ [ds[i]] ++ ds.drop (i + 1) = ds := by simp
  have offset : 2 * (ds.drop (i + 1)).length = 2 * ds.length - 2 - 2 * i := by
    rw [List.length_drop]
    omega
  have cut := extractLsb'_pack_middle (ds.take i) [ds[i]] (ds.drop (i + 1)) (w := w) (by rwa [around])
  rw [around, offset] at cut
  exact cut.trans (pack_singleton ds[i])

/-- Settles O37: dibit `i` is cut out of the sequence between the dibits before it and those after it. -/
theorem packPutsTheFirstDibitHighest : Obligations.PackPutsTheFirstDibitHighest := by
  unfold Obligations.PackPutsTheFirstDibitHighest
  intro ds i hi
  rw [extractLsb'_pack_dibit le_rfl hi, List.getD_eq_getElem _ _ hi]

/-! ### Configurations and instances -/

theorem thresholdLegal_iff (t : Nat) : thresholdLegal t = true ↔ 1 ≤ t ∧ t ≤ 24 := by
  simp [thresholdLegal]

/-- The five checks of a configuration; the last two are of the table order (R10). -/
theorem wellFormed_iff (c : Config) :
    c.wellFormed = true ↔
      (1 ≤ c.searchThreshold ∧ c.searchThreshold ≤ 24) ∧ (1 ≤ c.syncThreshold ∧ c.syncThreshold ≤ 24) ∧
        c.listenerPresent = true ∧ orderIsPermutation c.tableOrder = true ∧ orderIsConstrained c.tableOrder = true := by
  simp only [Config.wellFormed, Bool.and_eq_true, thresholdLegal_iff, and_assoc]

/-- Construction refuses an illegal configuration (R11). -/
theorem construct_of_illegal {c : Config} (h : c.wellFormed = false) : State.construct c = none := by
  simp [State.construct, h]

/-- Construction of a legal configuration is power-on (R800). -/
theorem construct_of_legal {c : Config} (h : c.wellFormed = true) : State.construct c = some (State.powerOn c) := by
  simp [State.construct, h]

/-- Of everything a step can do, an illegal configuration leaves the refusal (R11, log entry 15). -/
theorem step_of_illegal {s : State} (h : s.cfg.wellFormed = false) : step s = .refused .illegalConfiguration := by
  obtain ⟨-, refused⟩ | ⟨legal, -⟩ | ⟨_, _, legal, -⟩ | ⟨_, _, _, legal, -⟩ | ⟨_, _, _, legal, -⟩ := step_cases s
  · exact refused
  all_goals exact absurd legal (by simp [h])

/-- Settles O10: the clauses for construction and the step, then each value outside R10's table contradicts what a legal
configuration has. -/
theorem illegalConfigurationHasNoInstance : Obligations.IllegalConfigurationHasNoInstance := by
  unfold Obligations.IllegalConfigurationHasNoInstance
  refine ⟨fun _ => construct_of_illegal, fun _ => construct_of_legal, fun _ => step_of_illegal, ?_⟩
  intro c outside
  rw [← Bool.not_eq_true]
  intro legal
  obtain ⟨search, sync, listener, -, -⟩ := (wellFormed_iff c).mp legal
  obtain search0 | search25 | sync0 | sync25 | noListener := outside
  · omega
  · omega
  · omega
  · omega
  · exact absurd listener (by simp [noListener])

end Sys2Proof.Machine

/-! SUPPORT. Statements of 20_memory.md: what the delay buffers hold and answer (R201 to R204), the packing of a burst
(R211), and how a byte's dibits enter the buffers (R220). -/

namespace Sys2Proof.Machine

/-! ### Reading a buffer -/

section Buffers

variable {n : Nat} (b : DibitDelayBuffer n) (d : Dibit)

/-- `buf[i]` after a put is `buf[i + 1]` of the old dibits with the newest behind them (R201). -/
theorem bufGet_bufPut (i : Nat) : bufGet (bufPut b d) i = (b.slots ++ [d]).getD (i + 1) 0 := by
  rw [bufGet, bufPut_slots, List.getD_eq_getElem?_getD, List.getElem?_tail, List.getD_eq_getElem?_getD]

/-- Every dibit moves one place towards the oldest (R201). -/
theorem bufGet_bufPut_of_lt {i : Nat} (hi : i + 1 < n) : bufGet (bufPut b d) i = bufGet b (i + 1) := by
  rw [bufGet_bufPut, List.getD_append _ _ _ _ (by rwa [b.size])]
  rfl

/-- The newest dibit stands last (R201). -/
theorem bufGet_bufPut_newest (hn : 0 < n) : bufGet (bufPut b d) (n - 1) = d := by
  rw [bufGet_bufPut, Nat.sub_add_cancel hn, List.getD_append_right _ _ _ _ b.size.le, b.size, Nat.sub_self]
  rfl

/-! ### Streams of puts -/

/-- After a stream of puts a buffer holds the newest dibits of its old contents and the stream (R201). -/
theorem foldl_bufPut_slots (ds : List Dibit) : (ds.foldl bufPut b).slots = (b.slots ++ ds).drop ds.length := by
  induction ds generalizing b with
  | nil => simp
  | cons d ds ih =>
    calc ((d :: ds).foldl bufPut b).slots
        = ((b.slots ++ [d]).tail ++ ds).drop ds.length := by rw [List.foldl_cons, ih, bufPut_slots]
      _ = (b.slots ++ [d] ++ ds).tail.drop ds.length := by
        rw [List.tail_append_of_ne_nil (List.concat_ne_nil d b.slots)]
      _ = (b.slots ++ d :: ds).drop (ds.length + 1) := by simp

theorem bufOldest_eq_bufGet : bufOldest b = bufGet b 0 := by
  rw [bufOldest, bufGet, List.headD_eq_head?, List.getD_eq_getElem?_getD, List.head?_eq_getElem?]

/-- The oldest dibit after a stream of puts is the one that stands `ds.length` places in (R202). -/
theorem bufOldest_foldl_bufPut (ds : List Dibit) :
    bufOldest (ds.foldl bufPut b) = (b.slots ++ ds).getD ds.length 0 := by
  rw [bufOldest_eq_bufGet, bufGet, foldl_bufPut_slots, List.getD_eq_getElem?_getD, List.getElem?_drop,
    Nat.add_zero, List.getD_eq_getElem?_getD]

/-- What falls off a delay line after a stream that follows a reset (R202, R205). -/
theorem bufOldest_foldl_bufPut_zeros (ds : List Dibit) :
    bufOldest (ds.foldl bufPut (.zeros n)) = if ds.length < n then 0 else ds.getD (ds.length - n) 0 := by
  rw [bufOldest_foldl_bufPut, zeros_slots]
  split
  next short => rw [List.getD_append _ _ _ _ (by simpa using short), List.getD_replicate _ short]
  next long => rw [List.getD_append_right _ _ _ _ (by simpa using long), List.length_replicate]

/-! ### Windows -/

/-- A dibit inside the buffer is the slot of its number (R200). -/
theorem getElem?_slots {i : Nat} (hi : i < n) : b.slots[i]? = some (bufGet b i) := by
  have inside : i < b.slots.length := by rwa [b.size]
  rw [bufGet, List.getD_eq_getElem _ _ inside, List.getElem?_eq_getElem inside]

theorem length_bufSlice {offset length : Nat} (inside : offset + length ≤ n) :
    (bufSlice b offset length).length = length := by
  rw [bufSlice, List.length_take, List.length_drop, b.size]
  omega

/-- Dibit `i` of a window is dibit `offset + i` of the buffer (R203). -/
theorem getElem?_bufSlice {offset length i : Nat} (inside : offset + length ≤ n) (hi : i < length) :
    (bufSlice b offset length)[i]? = some (bufGet b (offset + i)) := by
  rw [bufSlice, List.getElem?_take_of_lt hi, List.getElem?_drop, getElem?_slots b (by omega)]

theorem bufWindow_of_inside {offset length : Nat} (inside : offset + length ≤ n) :
    bufWindow b offset length = .ok (bufSlice b offset length) := by
  rw [bufWindow_eq, if_pos inside]

theorem bufWindow_of_outside {offset length : Nat} (outside : n < offset + length) :
    bufWindow b offset length = .error .outOfRange := by
  rw [bufWindow_eq, if_neg (Nat.not_le_of_lt outside)]

/-- After a stream no longer than the buffer, the stream is the buffer's newest window (R201, R203). -/
theorem bufSlice_foldl_bufPut {ds : List Dibit} (fits : ds.length ≤ n) :
    bufSlice (ds.foldl bufPut b) (n - ds.length) ds.length = ds := by
  have all : ds.length + (n - ds.length) = b.slots.length := by rw [b.size]; omega
  rw [bufSlice, foldl_bufPut_slots, List.drop_drop, all, List.drop_left, List.take_length]

end Buffers

/-- Settles O34: a put shifts the dibits behind the oldest and appends the newest. -/
theorem putDiscardsTheOldest : Obligations.PutDiscardsTheOldest := by
  unfold Obligations.PutDiscardsTheOldest
  exact fun n buf d hn => ⟨fun i hi => bufGet_bufPut_of_lt buf d hi, bufGet_bufPut_newest buf d hn⟩

/-- Settles O35: `get_and_put` answers the oldest dibit, which `n` puts ago was the newest. -/
theorem delayLineReturnsTheDibitPutNEarlier : Obligations.DelayLineReturnsTheDibitPutNEarlier := by
  unfold Obligations.DelayLineReturnsTheDibitPutNEarlier
  intro n _
  constructor
  · intro buf d
    rw [bufGetAndPut, bufOldest_eq_bufGet]
  · intro start ds d
    rw [bufGetAndPut_fst, bufReset_eq, bufOldest_foldl_bufPut_zeros]

/-- Settles O36: a window inside is the buffer's slice, and one outside is refused with OUT_OF_RANGE, packed or not. -/
theorem windowsOutsideAreRefused : Obligations.WindowsOutsideAreRefused := by
  unfold Obligations.WindowsOutsideAreRefused
  intro n buf offset length
  constructor
  · intro inside
    have window := bufWindow_of_inside buf inside
    refine ⟨bufSlice buf offset length, window, length_bufSlice buf inside,
      fun i hi => getElem?_bufSlice buf inside hi, ?_⟩
    rw [bufPackBits, window]
    rfl
  · intro outside
    have window := bufWindow_of_outside buf outside
    refine ⟨⟨.outOfRange, window⟩, .outOfRange, ?_⟩
    rw [bufPackBits, window]
    rfl

/-! ### The bits of a burst -/

section BurstBits

variable (mb : DibitDelayBuffer 144)

/-- Dibit `i` of the message buffer in the burst value (R211). -/
theorem extractLsb'_burstValue_dibit {i : Nat} (hi : i < 144) :
    (burstValue mb).extractLsb' (286 - 2 * i) 2 = bufGet mb i := by
  have inside : i < mb.slots.length := by rwa [mb.size]
  have dibit := extractLsb'_pack_dibit (w := 288) (by rw [mb.size]) inside
  rw [mb.size] at dibit
  rw [bufGet, List.getD_eq_getElem _ _ inside]
  exact dibit

/-- The bits of a window of the message buffer in the burst value, which end above the dibits after it (R211). -/
theorem extractLsb'_burstValue_slice {offset length : Nat} (inside : offset + length ≤ 144) :
    (burstValue mb).extractLsb' (2 * (144 - (offset + length))) (2 * length) =
      pack (2 * length) (bufSlice mb offset length) := by
  have around : mb.slots.take offset ++ bufSlice mb offset length ++ mb.slots.drop (offset + length) = mb.slots := by
    rw [bufSlice, List.append_assoc, ← List.drop_drop, List.take_append_drop, List.take_append_drop]
  have after : (mb.slots.drop (offset + length)).length = 144 - (offset + length) := by rw [List.length_drop, mb.size]
  have cut := extractLsb'_pack_middle (w := 288) (mb.slots.take offset) (bufSlice mb offset length)
    (mb.slots.drop (offset + length)) (by rw [around, mb.size])
  rwa [around, after, length_bufSlice mb inside] at cut

/-- Byte `j` of a burst is dibits `4j .. 4j+3` of the message buffer (R211). -/
theorem burstByte_burstValue {j : Nat} (hj : j < 36) : burstByte (burstValue mb) j = pack 8 (bufSlice mb (4 * j) 4) := by
  have cut := extractLsb'_burstValue_slice mb (offset := 4 * j) (length := 4) (by omega)
  have place : 2 * (144 - (4 * j + 4)) = 280 - 8 * j := by omega
  rwa [place] at cut

/-- The first dibit of a window of four is the high dibit of its byte (R21). -/
theorem extractLsb'_pack_bufSlice_high {offset : Nat} (inside : offset + 4 ≤ 144) :
    (pack 8 (bufSlice mb offset 4)).extractLsb' 6 2 = bufGet mb offset := by
  have length := length_bufSlice mb inside
  have first : 0 < (bufSlice mb offset 4).length := by omega
  have dibit := extractLsb'_pack_dibit (w := 8) (by omega) first
  have read := getElem?_bufSlice mb inside (i := 0) (by decide)
  rw [List.getElem?_eq_getElem first, Option.some_inj] at read
  rw [length, read] at dibit
  exact dibit

theorem length_burstBytes (bits : BurstBits) : (burstBytes bits).length = 36 := by
  rw [burstBytes, List.length_map, List.length_range]

theorem getElem?_burstBytes (bits : BurstBits) {j : Nat} (hj : j < 36) :
    (burstBytes bits)[j]? = some (burstByte bits j) := by
  rw [burstBytes, List.getElem?_map, List.getElem?_range hj, Option.map_some]

end BurstBits

/-- Settles O38: a byte is a window of four dibits of the packed message buffer, its high dibit the window's first. -/
theorem burstBytesArePackedInDibitOrder : Obligations.BurstBytesArePackedInDibitOrder := by
  unfold Obligations.BurstBytesArePackedInDibitOrder
  intro mb
  refine ⟨fun i hi => extractLsb'_burstValue_dibit mb hi, length_burstBytes _, fun j hj => ?_⟩
  have byte : (burstValue mb).extractLsb' (280 - 8 * j) 8 = pack 8 (bufSlice mb (4 * j) 4) := burstByte_burstValue mb hj
  refine ⟨getElem?_burstBytes _ hj, byte, ?_⟩
  rw [byte, extractLsb'_pack_bufSlice_high mb (by omega)]

/-! ### The buffers and the output along DIBIT steps -/

section Stream

variable (s : State)

theorem commandPll_out_grows (lock : CarrierLock) : s.out <+: (commandPll lock s).out := by
  rw [commandPll_out]
  exact ⟨_, rfl⟩

theorem padBurst_out_grows : s.out <+: (padBurst s).out := by
  obtain ⟨-, pads⟩ | ⟨-, same⟩ := padBurst_cases s
  · rw [pads, syncLossEvent_out]
    exact ⟨_, rfl⟩
  · rw [same]

/-- `EMIT_BURST` adds events, the last of them a burst with its lock (R540, R541). -/
theorem emitBurst_out_last (id : PatternId) (errors : BitVec 8) (lock : CarrierLock) :
    ∃ before e, e.lock = lock ∧ (emitBurst id errors lock s).out = s.out ++ before ++ [.burst e] := by
  obtain ⟨before, padding⟩ := padBurst_out_grows s
  exact ⟨before, _, rfl, by rw [padding, emitBurst_out]⟩

theorem emitBurst_out_grows (id : PatternId) (errors : BitVec 8) (lock : CarrierLock) :
    s.out <+: (emitBurst id errors lock s).out := by
  obtain ⟨before, e, -, out⟩ := emitBurst_out_last s id errors lock
  rw [out, List.append_assoc]
  exact ⟨_, rfl⟩

theorem lossCheck_out_grows : s.out <+: (lossCheck s).out := by
  obtain ⟨-, reports⟩ | ⟨-, same⟩ := lossCheck_cases s
  · rw [reports]
    exact ⟨_, rfl⟩
  · rw [same]

/-- A boundary leaves the message buffer alone (R521 to R524). -/
@[simp] theorem boundary_mb : (boundary s).mb = s.mb := by
  obtain ⟨t, -, h⟩ | ⟨t, -, -, h⟩ | ⟨t, -, -, h⟩ := boundary_cases s <;> simp [h]

/-- A boundary leaves the delay line alone (R521 to R524). -/
@[simp] theorem boundary_db : (boundary s).db = s.db := by
  obtain ⟨t, -, h⟩ | ⟨t, -, -, h⟩ | ⟨t, -, -, h⟩ := boundary_cases s <;> simp [h]

theorem boundary_out_grows : s.out <+: (boundary s).out := by
  obtain ⟨t, -, h⟩ | ⟨t, -, -, h⟩ | ⟨t, -, -, h⟩ := boundary_cases s
  · rw [h, ← setCurrent_out s t]
    exact emitBurst_out_grows ..
  · rw [h, ← setCurrent_out s t]
    exact emitBurst_out_grows ..
  · simp [h]

/-- A fire repairs the message buffer (R532). -/
@[simp] theorem onFire_mb (m : Match) : (onFire m s).mb = bufRotate s.mb (rotDibit (inverseLock m.lock)) := by
  simp [onFire]

@[simp] theorem onFire_db (m : Match) : (onFire m s).db = s.db := by
  simp [onFire]

/-- A fire adds events, the last of them a burst with the match's lock (R530, R541). -/
theorem onFire_out_last (m : Match) :
    ∃ before e, e.lock = m.lock ∧ (onFire m s).out = s.out ++ before ++ [.burst e] := by
  obtain ⟨command, hcommand⟩ := commandPll_out_grows (trackerSet m.id (BitVec.ofNat 8 m.errors) s) m.lock
  obtain ⟨before, e, lock, out⟩ := emitBurst_out_last
    (repairBuffer m.lock (commandPll m.lock (trackerSet m.id (BitVec.ofNat 8 m.errors) s)))
    m.id (BitVec.ofNat 8 m.errors) m.lock
  rw [repairBuffer_out, ← hcommand, trackerSet_out, List.append_assoc s.out] at out
  exact ⟨command ++ before, e, lock, out⟩

theorem onFire_out_grows (m : Match) : s.out <+: (onFire m s).out := by
  obtain ⟨before, e, -, out⟩ := onFire_out_last s m
  rw [out, List.append_assoc]
  exact ⟨_, rfl⟩

/-- What follows the old output in the new one was emitted since. -/
theorem mem_eventsSince {s t : State} {es : List Event} {x : Event} (grows : s.out ++ es <+: t.out) (hx : x ∈ es) :
    x ∈ eventsSince s t := by
  obtain ⟨later, out⟩ := grows
  rw [eventsSince, ← out, List.append_assoc, List.drop_left]
  exact List.mem_append_left _ hx

/-- The events of two runs in a row are those of the first and then those of the second. -/
theorem eventsSince_append {s t u : State} (first : s.out <+: t.out) (second : t.out <+: u.out) :
    eventsSince s u = eventsSince s t ++ eventsSince t u := by
  obtain ⟨es, out⟩ := first
  obtain ⟨later, out'⟩ := second
  have old : eventsSince s t = es := by rw [eventsSince, ← out, List.drop_left]
  have new : eventsSince t u = later := by rw [eventsSince, ← out', List.drop_left]
  rw [old, new, eventsSince, ← out', ← out, List.append_assoc, List.drop_left]

/-- A DIBIT step puts its dibit in the delay line, whatever else it does (R500). -/
@[simp] theorem dibitStep_db (d : Dibit) : (dibitStep d s).db = bufPut s.db d := by
  obtain ⟨-, -, inside⟩ | ⟨-, -, atBoundary⟩ | ⟨m, -, -, fires⟩ | ⟨-, -, searches⟩ := dibitStep_cases s d
  · rw [inside, receiveDibit_db]
  · rw [atBoundary, boundary_db, receiveDibit_db]
  · rw [fires, lossCheck_db, onFire_db, matchFeed_db, receiveDibit_db]
  · rw [searches, lossCheck_db, matchFeed_db, receiveDibit_db]

/-- A DIBIT step takes back no event (R230). -/
theorem dibitStep_out_grows (d : Dibit) : s.out <+: (dibitStep d s).out := by
  obtain ⟨-, -, inside⟩ | ⟨-, -, atBoundary⟩ | ⟨m, -, -, fires⟩ | ⟨-, -, searches⟩ := dibitStep_cases s d
  · rw [inside, receiveDibit_out]
  · rw [atBoundary]
    exact boundary_out_grows (receiveDibit d s)
  · rw [fires]
    exact (onFire_out_grows (matchFeed (bufOldest s.db) (receiveDibit d s)) m).trans (lossCheck_out_grows _)
  · rw [searches]
    exact lossCheck_out_grows (matchFeed (bufOldest s.db) (receiveDibit d s))

/-- A DIBIT step puts its dibit in the message buffer, unless a fire rotates the buffer and says so in a burst (R500,
R532). -/
theorem dibitStep_mb_or_rotated (d : Dibit) :
    (dibitStep d s).mb = bufPut s.mb d ∨
      ∃ e, e.lock ≠ .normal ∧ Event.burst e ∈ eventsSince s (dibitStep d s) := by
  obtain ⟨-, -, inside⟩ | ⟨-, -, atBoundary⟩ | ⟨m, -, -, fires⟩ | ⟨-, -, searches⟩ := dibitStep_cases s d
  · exact .inl (by rw [inside, receiveDibit_mb])
  · exact .inl (by rw [atBoundary, boundary_mb, receiveDibit_mb])
  · by_cases rotated : m.lock = .normal
    · exact .inl (by simp [fires, rotated, inverseLock])
    · obtain ⟨before, e, lock, out⟩ := onFire_out_last (matchFeed (bufOldest s.db) (receiveDibit d s)) m
      refine .inr ⟨e, by rwa [lock], mem_eventsSince (es := before ++ [.burst e]) ?_ (by simp)⟩
      rw [fires, ← List.append_assoc]
      exact out ▸ lossCheck_out_grows _
  · exact .inl (by rw [searches, lossCheck_mb, matchFeed_mb, receiveDibit_mb])

theorem dibitSteps_out_grows (ds : List Dibit) : s.out <+: (dibitSteps ds s).out := by
  induction ds generalizing s with
  | nil => exact ⟨[], List.append_nil _⟩
  | cons d ds ih => exact (dibitStep_out_grows s d).trans (ih (dibitStep d s))

/-- The delay line takes every dibit of a stream (R118 (g)). -/
theorem dibitSteps_db (ds : List Dibit) : (dibitSteps ds s).db = ds.foldl bufPut s.db := by
  induction ds generalizing s with
  | nil => rfl
  | cons d ds ih => rw [dibitSteps_cons, ih, dibitStep_db, List.foldl_cons]

/-- The message buffer takes every dibit of a stream none of whose bursts is rotated (R118 (f)). -/
theorem dibitSteps_mb (ds : List Dibit)
    (unrotated : ∀ e, Event.burst e ∈ eventsSince s (dibitSteps ds s) → e.lock = .normal) :
    (dibitSteps ds s).mb = ds.foldl bufPut s.mb := by
  induction ds generalizing s with
  | nil => rfl
  | cons d ds ih =>
    have events := eventsSince_append (dibitStep_out_grows s d) (dibitSteps_out_grows (dibitStep d s) ds)
    rw [dibitSteps_cons, events] at unrotated
    rw [dibitSteps_cons, ih _ fun e he => unrotated e (List.mem_append_right _ he), List.foldl_cons]
    obtain received | ⟨e, rotated, he⟩ := dibitStep_mb_or_rotated s d
    · rw [received]
    · exact absurd (unrotated e (List.mem_append_left _ he)) rotated

end Stream

/-! ### The dibits of a byte -/

theorem length_byteDibits (b : Byte) : (byteDibits b).length = 4 := rfl

/-- Packing undoes the unpacking of a byte: its four dibits are its base-4 digits (R220). -/
theorem pack_byteDibits (b : Byte) : pack 8 (byteDibits b) = b := by
  apply BitVec.eq_of_toNat_eq
  have digits : packNat (byteDibits b) =
      ((b.toNat / 2 ^ 6 % 2 ^ 2 * 4 + b.toNat / 2 ^ 4 % 2 ^ 2) * 4 + b.toNat / 2 ^ 2 % 2 ^ 2) * 4 + b.toNat % 2 ^ 2 := by
    simp [byteDibits, packNat, BitVec.extractLsb'_toNat, Nat.shiftRight_eq_div_pow]
  rw [toNat_pack (by rw [length_byteDibits]), digits]
  omega

/-- Settles O41: the last four dibits of a buffer after four puts are those put. -/
theorem byteUnpacksHighDibitFirst : Obligations.ByteUnpacksHighDibitFirst := by
  unfold Obligations.ByteUnpacksHighDibitFirst
  intro b
  refine ⟨rfl, pack_byteDibits b, ?_⟩
  rintro s _ ⟨rfl⟩
  constructor
  · rw [dibitSteps_db]
    exact bufSlice_foldl_bufPut s.db (ds := byteDibits b) (by simp [length_byteDibits])
  · intro unrotated
    rw [dibitSteps_mb s _ unrotated]
    exact bufSlice_foldl_bufPut s.mb (ds := byteDibits b) (by simp [length_byteDibits])

end Sys2Proof.Machine

/-! SUPPORT. Statements of 40_sync_matcher.md: which patterns the search comparison reports (R411), and the register
while the framer is synchronized (R414). -/

namespace Sys2Proof.Machine

/-! ### The search comparison -/

/-- A pattern the search comparison accepts: its canonical constant is near enough, or one of its rotated constants is
the register's value (R411). -/
def SearchHits (r : SyncWord) (threshold : Nat) (id : PatternId) : Prop :=
  ∃ c, (rom id).canonical = some c ∧
    (hamming r c ≤ threshold ∨ romWord .plus90 id = some r ∨ romWord .minus90 id = some r ∨
      romWord .inverted id = some r)

section Search

variable {r : SyncWord} {threshold : Nat}

/-- A pattern reports nothing exactly when it has no constant or each of its four tests fails (R411, R315). -/
theorem searchPattern_eq_none_iff {id : PatternId} :
    searchPattern r threshold id = none ↔ ¬ SearchHits r threshold id := by
  cases hc : (rom id).canonical with
  | none => simp [searchPattern, SearchHits, hc]
  | some c =>
    simp only [searchPattern, SearchHits, romWord, hc, Option.some.injEq, exists_eq_left', eq_comm (b := some r)]
    split_ifs with near plus90 minus90 inverted <;> simp [*]

theorem searchCompare_eq_none_iff {order : List PatternId} :
    searchCompare order r threshold = none ↔ ∀ id ∈ order, ¬ SearchHits r threshold id := by
  simp only [searchCompare, List.findSome?_eq_none_iff, searchPattern_eq_none_iff]

end Search

/-- Settles O24: no pattern before the one that answers is a hit, and its own tests run in the order of rule R411. -/
theorem searchCompareTakesTheFirstMatch : Obligations.SearchCompareTakesTheFirstMatch := by
  unfold Obligations.SearchCompareTakesTheFirstMatch
  intro order r threshold
  refine ⟨searchCompare_eq_none_iff, fun m answer => ?_⟩
  obtain ⟨before, after, order_eq, silent, reports⟩ := searchCompare_some answer
  obtain ⟨c, hc, -, tests⟩ := searchPattern_some reports
  refine ⟨⟨before, after, order_eq, fun id hid => searchPattern_eq_none_iff.mp (silent id hid)⟩, c, hc, ?_⟩
  obtain ⟨normal, errors, near⟩ | rotated := tests
  · exact .inl ⟨normal, errors, errors ▸ near⟩
  · exact .inr rotated

/-! ### The register while synchronized -/

section Register

variable {s : State}

/-- A boundary writes the register only where it returns to searching (R523). -/
theorem boundary_reg_of_synchronized (stays : (boundary s).fsm = .synchronized) : (boundary s).reg = s.reg := by
  obtain ⟨t, -, emits⟩ | ⟨t, -, -, emits⟩ | ⟨t, -, -, returns⟩ := boundary_cases s
  · simp [emits]
  · simp [emits]
  · simp [returns] at stays

/-- A DIBIT step from a synchronized state to a synchronized one does not feed the matcher (R414). -/
theorem dibitStep_reg_of_synchronized {d : Dibit} (before : s.fsm = .synchronized)
    (after : (dibitStep d s).fsm = .synchronized) : (dibitStep d s).reg = s.reg := by
  obtain ⟨-, -, inside⟩ | ⟨-, -, atBoundary⟩ | ⟨m, searching, -, -⟩ | ⟨searching, -, -⟩ := dibitStep_cases s d
  · rw [inside, receiveDibit_reg]
  · rw [atBoundary] at after ⊢
    rw [boundary_reg_of_synchronized after, receiveDibit_reg]
  · simp [before] at searching
  · simp [before] at searching

end Register

/-- Settles O45, by induction on the stream: each step starts and ends synchronized. -/
theorem registerIsFrozenWhileSynchronized : Obligations.RegisterIsFrozenWhileSynchronized := by
  unfold Obligations.RegisterIsFrozenWhileSynchronized
  intro ds
  induction ds with
  | nil => exact fun s _ => rfl
  | cons d ds ih =>
    intro s synchronized
    have before : s.fsm = .synchronized := synchronized 0 (Nat.zero_le _)
    have after : (dibitStep d s).fsm = .synchronized := synchronized 1 (by simp)
    have later : ∀ n ≤ ds.length, (dibitSteps (ds.take n) (dibitStep d s)).fsm = .synchronized :=
      fun n hn => synchronized (n + 1) (Nat.succ_le_succ hn)
    rw [dibitSteps_cons, ih _ later, dibitStep_reg_of_synchronized before after]

end Sys2Proof.Machine

/-! SUPPORT. Statements of 42_burst_framer.md: which PLL commands a stream of dibits can emit (R530, R531). -/

namespace Sys2Proof.Machine

/-! ### The PLL commands among the emitted events -/

/-- The commands a fire with this lock gives the PLL, one or none (R531). -/
def fireCommands (c : Config) (lock : CarrierLock) : List Event :=
  if c.pllPresent then (pllOffset lock).toList.map .pllCorrect else []

theorem fireCommands_normal (c : Config) : fireCommands c .normal = [] := by
  simp [fireCommands, pllOffset]

/-- A command needs a PLL and carries the offset of its lock (R531). -/
theorem mem_fireCommands {c : Config} {lock : CarrierLock} {e : Event} :
    e ∈ fireCommands c lock ↔ c.pllPresent = true ∧ ∃ o, pllOffset lock = some o ∧ e = .pllCorrect o := by
  cases present : c.pllPresent <;> simp [fireCommands, present, eq_comm]

/-- Every event of a fire's commands is a command. -/
theorem fireCommands_filter_isPll (c : Config) (lock : CarrierLock) :
    (fireCommands c lock).filter Event.isPll = fireCommands c lock := by
  rw [List.filter_eq_self]
  intro e he
  obtain ⟨-, o, -, rfl⟩ := mem_fireCommands.mp he
  rfl

section Commands

variable (s : State)

/-- Padding commands nothing (R540). -/
@[simp] theorem padBurst_out_filter_isPll : (padBurst s).out.filter Event.isPll = s.out.filter Event.isPll := by
  obtain ⟨-, pads⟩ | ⟨-, same⟩ := padBurst_cases s
  · simp [pads, Event.isPll]
  · rw [same]

/-- `EMIT_BURST` commands nothing (R540, R541). -/
@[simp] theorem emitBurst_out_filter_isPll (id : PatternId) (errors : BitVec 8) (lock : CarrierLock) :
    (emitBurst id errors lock s).out.filter Event.isPll = s.out.filter Event.isPll := by
  simp [emitBurst_out, Event.isPll]

/-- The sync-loss threshold commands nothing (R511). -/
@[simp] theorem lossCheck_out_filter_isPll : (lossCheck s).out.filter Event.isPll = s.out.filter Event.isPll := by
  obtain ⟨-, reports⟩ | ⟨-, same⟩ := lossCheck_cases s
  · simp [reports, Event.isPll]
  · rw [same]

/-- A boundary commands nothing: the tracker knows no rotated lock (R521 to R524). -/
@[simp] theorem boundary_out_filter_isPll : (boundary s).out.filter Event.isPll = s.out.filter Event.isPll := by
  obtain ⟨t, -, emits⟩ | ⟨t, -, -, emits⟩ | ⟨t, -, -, returns⟩ := boundary_cases s
  · simp [emits]
  · simp [emits]
  · simp [returns]

/-- Of everything a fire emits, only `commandPll` commands the PLL (R530, R531). -/
@[simp] theorem onFire_out_filter_isPll (m : Match) :
    (onFire m s).out.filter Event.isPll = s.out.filter Event.isPll ++ fireCommands s.cfg m.lock := by
  have command : (commandPll m.lock (trackerSet m.id (BitVec.ofNat 8 m.errors) s)).out =
      s.out ++ fireCommands s.cfg m.lock := by
    rw [commandPll_out, trackerSet_out, trackerSet_cfg, fireCommands]
  simp [onFire, command, fireCommands_filter_isPll]

/-! ### The configuration along DIBIT steps -/

@[simp] theorem boundary_cfg : (boundary s).cfg = s.cfg := by
  obtain ⟨t, -, emits⟩ | ⟨t, -, -, emits⟩ | ⟨t, -, -, returns⟩ := boundary_cases s
  · simp [emits]
  · simp [emits]
  · simp [returns]

@[simp] theorem onFire_cfg (m : Match) : (onFire m s).cfg = s.cfg := by
  simp [onFire]

/-- A DIBIT step keeps the configuration (R10). -/
@[simp] theorem dibitStep_cfg (d : Dibit) : (dibitStep d s).cfg = s.cfg := by
  obtain ⟨-, -, inside⟩ | ⟨-, -, atBoundary⟩ | ⟨m, -, -, fires⟩ | ⟨-, -, searches⟩ := dibitStep_cases s d
  · simp [inside]
  · simp [atBoundary]
  · simp [fires]
  · simp [searches]

/-! ### The commands of a stream -/

/-- The commands after a DIBIT step are the old ones and those of one lock, NORMAL where no fire happens (R500, R531). -/
theorem dibitStep_out_filter_isPll (d : Dibit) :
    ∃ lock, (dibitStep d s).out.filter Event.isPll = s.out.filter Event.isPll ++ fireCommands s.cfg lock := by
  obtain ⟨-, -, inside⟩ | ⟨-, -, atBoundary⟩ | ⟨m, -, -, fires⟩ | ⟨-, -, searches⟩ := dibitStep_cases s d
  · exact ⟨.normal, by simp [inside, fireCommands_normal]⟩
  · exact ⟨.normal, by simp [atBoundary, fireCommands_normal]⟩
  · exact ⟨m.lock, by simp [fires]⟩
  · exact ⟨.normal, by simp [searches, fireCommands_normal]⟩

/-- Every command a DIBIT step emits is that of a lock (R531). -/
theorem mem_fireCommands_of_dibitStep {d : Dibit} {e : Event} (emitted : e ∈ eventsSince s (dibitStep d s))
    (isPll : e.isPll = true) : ∃ lock, e ∈ fireCommands s.cfg lock := by
  obtain ⟨es, out⟩ := dibitStep_out_grows s d
  obtain ⟨lock, commands⟩ := dibitStep_out_filter_isPll s d
  rw [eventsSince, ← out, List.drop_left] at emitted
  rw [← out, List.filter_append, List.append_cancel_left_eq] at commands
  exact ⟨lock, commands ▸ List.mem_filter.mpr ⟨emitted, isPll⟩⟩

/-- Every command a stream of dibits emits is that of a lock (R531). -/
theorem mem_fireCommands_of_dibitSteps {ds : List Dibit} {e : Event} (emitted : e ∈ eventsSince s (dibitSteps ds s))
    (isPll : e.isPll = true) : ∃ lock, e ∈ fireCommands s.cfg lock := by
  induction ds generalizing s with
  | nil => simp [dibitSteps_nil, eventsSince] at emitted
  | cons d ds ih =>
    rw [dibitSteps_cons, eventsSince_append (dibitStep_out_grows s d) (dibitSteps_out_grows (dibitStep d s) ds),
      List.mem_append] at emitted
    obtain now | later := emitted
    · exact mem_fireCommands_of_dibitStep s now isPll
    · exact dibitStep_cfg s d ▸ ih (dibitStep d s) later

end Commands

/-- Settles O50: the offsets are the table's, and every command of a stream is that of a fire's lock, which needs a
PLL. -/
theorem pllCommands : Obligations.PllCommands := by
  unfold Obligations.PllCommands
  refine ⟨⟨rfl, rfl, rfl, rfl⟩, fun ds s => ⟨fun absent e emitted => ?_, fun o emitted => ?_⟩⟩
  · rw [← Bool.not_eq_true]
    intro isPll
    obtain ⟨lock, command⟩ := mem_fireCommands_of_dibitSteps s emitted isPll
    obtain ⟨present, -⟩ := mem_fireCommands.mp command
    simp [absent] at present
  · obtain ⟨lock, command⟩ := mem_fireCommands_of_dibitSteps s emitted rfl
    obtain ⟨-, o', offset, same⟩ := mem_fireCommands.mp command
    obtain rfl := Event.pllCorrect.inj same
    exact ⟨lock, offset⟩

end Sys2Proof.Machine

/-! SUPPORT. Statements of 43_timebase.md: the stamp of a burst (R604), and the clock's hint (R610). -/

namespace Sys2Proof.Machine

/-! ### The bursts among the emitted events -/

section Bursts

variable (s : State)

/-- Padding emits no burst (R540). -/
@[simp] theorem padBurst_out_filter_isBurst :
    (padBurst s).out.filter Event.isBurst = s.out.filter Event.isBurst := by
  obtain ⟨-, pads⟩ | ⟨-, same⟩ := padBurst_cases s
  · simp [pads, Event.isBurst]
  · rw [same]

/-- A PLL command is no burst (R530). -/
@[simp] theorem commandPll_out_filter_isBurst (lock : CarrierLock) :
    (commandPll lock s).out.filter Event.isBurst = s.out.filter Event.isBurst := by
  cases lock <;> cases present : s.cfg.pllPresent <;> simp [commandPll_out, pllOffset, present, Event.isBurst]

/-- The sync-loss threshold emits no burst (R511). -/
@[simp] theorem lossCheck_out_filter_isBurst :
    (lossCheck s).out.filter Event.isBurst = s.out.filter Event.isBurst := by
  obtain ⟨-, reports⟩ | ⟨-, same⟩ := lossCheck_cases s
  · simp [reports, Event.isBurst]
  · rw [same]

/-- `EMIT_BURST` emits one burst, stamped with the clock it leaves: the padding comes before the stamp, and nothing
after it advances the clock (R540, R541, R604). -/
theorem emitBurst_out_filter_isBurst (id : PatternId) (errors : BitVec 8) (lock : CarrierLock) :
    ∃ b, (emitBurst id errors lock s).out.filter Event.isBurst = s.out.filter Event.isBurst ++ [.burst b] ∧
      b.tsMs = (emitBurst id errors lock s).ms := by
  rw [emitBurst_out, List.filter_append, padBurst_out_filter_isBurst, emitBurst_ms]
  exact ⟨_, rfl, rfl⟩

/-- A boundary emits one burst, stamped with the clock it leaves, or none (R521 to R524, R604). -/
theorem boundary_out_filter_isBurst :
    (boundary s).out.filter Event.isBurst = s.out.filter Event.isBurst ∨
      ∃ b, (boundary s).out.filter Event.isBurst = s.out.filter Event.isBurst ++ [.burst b] ∧
        b.tsMs = (boundary s).ms := by
  obtain ⟨t, -, emits⟩ | ⟨t, -, -, emits⟩ | ⟨t, -, -, returns⟩ := boundary_cases s
  · right
    simpa [emits] using emitBurst_out_filter_isBurst (s.setCurrent t) t.pat t.err .normal
  · right
    simpa [emits] using emitBurst_out_filter_isBurst (s.setCurrent t) .unknown 0 .normal
  · left
    simp [returns]

/-- A fire emits one burst, stamped with the clock it leaves (R530, R604). -/
theorem onFire_out_filter_isBurst (m : Match) :
    ∃ b, (onFire m s).out.filter Event.isBurst = s.out.filter Event.isBurst ++ [.burst b] ∧
      b.tsMs = (onFire m s).ms := by
  obtain ⟨b, out, stamp⟩ := emitBurst_out_filter_isBurst
    (repairBuffer m.lock (commandPll m.lock (trackerSet m.id (BitVec.ofNat 8 m.errors) s)))
    m.id (BitVec.ofNat 8 m.errors) m.lock
  rw [repairBuffer_out, commandPll_out_filter_isBurst, trackerSet_out] at out
  exact ⟨b, out, stamp⟩

@[simp] theorem onFire_cnt (m : Match) : (onFire m s).cnt = 0 := by
  simp [onFire]

/-- A fire leaves no dibit counted, so the sync-loss threshold does not advance the clock after its burst (R511,
R541). -/
@[simp] theorem lossCheck_onFire (m : Match) : lossCheck (onFire m s) = onFire m s := by
  obtain ⟨above, -⟩ | ⟨-, same⟩ := lossCheck_cases (onFire m s)
  · simp at above
  · exact same

/-- A DIBIT step emits one burst, stamped with the clock it leaves, or none (R500, R604). -/
theorem dibitStep_out_filter_isBurst (d : Dibit) :
    (dibitStep d s).out.filter Event.isBurst = s.out.filter Event.isBurst ∨
      ∃ b, (dibitStep d s).out.filter Event.isBurst = s.out.filter Event.isBurst ++ [.burst b] ∧
        b.tsMs = (dibitStep d s).ms := by
  obtain ⟨-, -, inside⟩ | ⟨-, -, atBoundary⟩ | ⟨m, -, -, fires⟩ | ⟨-, -, searches⟩ := dibitStep_cases s d
  · left
    simp [inside]
  · rw [atBoundary, ← receiveDibit_out s d]
    exact boundary_out_filter_isBurst (receiveDibit d s)
  · right
    rw [fires, lossCheck_onFire]
    exact onFire_out_filter_isBurst (matchFeed (bufOldest s.db) (receiveDibit d s)) m
  · left
    simp [searches]

end Bursts

/-- The bursts a run emits are the bursts of its output after the old ones. -/
theorem out_filter_isBurst_eq_append {s t : State} (grows : s.out <+: t.out) :
    t.out.filter Event.isBurst = s.out.filter Event.isBurst ++ (eventsSince s t).filter Event.isBurst := by
  obtain ⟨es, out⟩ := grows
  rw [eventsSince, ← out, List.drop_left, List.filter_append]

/-- Settles O49: the step's one burst, if it emits any, is stamped with the clock the step leaves. -/
theorem burstsCarryTheClock : Obligations.BurstsCarryTheClock := by
  unfold Obligations.BurstsCarryTheClock
  rintro d s _ b ⟨rfl⟩ emitted
  have isBurst : Event.burst b ∈ (eventsSince s (dibitStep d s)).filter Event.isBurst :=
    List.mem_filter.mpr ⟨emitted, rfl⟩
  have bursts := out_filter_isBurst_eq_append (dibitStep_out_grows s d)
  obtain noBurst | ⟨b', one, stamp⟩ := dibitStep_out_filter_isBurst s d
  · rw [noBurst, List.self_eq_append_right] at bursts
    simp [bursts] at isBurst
  · rw [one, List.append_cancel_left_eq] at bursts
    rw [← bursts, List.mem_singleton, Event.burst.injEq] at isBurst
    rw [isBurst, stamp]

/-! ### The hint -/

/-- A hint completes in every state and writes the clock only (R610). -/
theorem exec_timeHint (t : Millis) (s : State) : exec (.timeHint t) s = .next { s with ms := t } := rfl

/-- The word of a hint decodes to it: its op code is 011, and every data field is legal (R301, R610). -/
theorem decode_wordOf_timeHint (t : Millis) : decode (wordOf 3 t) = .txn (.timeHint t) := by
  simp [decode, Laws.opField_wordOf, Laws.dataField_wordOf]

/-- Of everything a step can do, a transaction at the port of a legal instance without the mark leaves its execution
(R702). -/
theorem step_of_txn {s : State} {w : TxnWord} {rest : List TxnWord} {i : Instr} (legal : s.cfg.wellFormed = true)
    (unmarked : s.refused = false) (waits : s.input = w :: rest) (decodes : decode w = .txn i) :
    step s = exec i { s with input := rest, reply := none } := by
  obtain ⟨illegal, -⟩ | ⟨-, empty, -⟩ | ⟨_, _, -, -, marked, -⟩ | ⟨_, _, e, -, waits', -, error, -⟩ |
    ⟨_, _, i', -, waits', -, decodes', runs⟩ := step_cases s
  · simp [legal] at illegal
  · simp [waits] at empty
  · simp [unmarked] at marked
  · obtain ⟨rfl, rfl⟩ := List.cons.inj (waits.symm.trans waits')
    simp [decodes] at error
  · obtain ⟨rfl, rfl⟩ := List.cons.inj (waits.symm.trans waits')
    obtain rfl := Decoded.txn.inj (decodes.symm.trans decodes')
    exact runs

/-- Settles O13: the port runs the hint's word as the hint, which writes the clock. -/
theorem timeHintWritesTheClockOnly : Obligations.TimeHintWritesTheClockOnly := by
  unfold Obligations.TimeHintWritesTheClockOnly
  intro t s
  refine ⟨exec_timeHint t s, rfl, decode_wordOf_timeHint t, fun rest legal unmarked waits => ?_⟩
  rw [step_of_txn legal unmarked waits (decode_wordOf_timeHint t), exec_timeHint]

end Sys2Proof.Machine

/-! SUPPORT. Statements of 44_message_framer.md: a BYTE transaction is four DIBIT steps, and so is its word at the port
(R650). -/

namespace Sys2Proof.Machine

/-! ### The byte -/

/-- A dibit completes in every state (R500, R716). -/
theorem exec_dibit (d : Dibit) (s : State) : exec (.dibit d) s = .next (dibitStep d s) := rfl

/-- A byte completes in every state, with what its dibits leave (R650). -/
theorem exec_byte (b : Byte) (s : State) : exec (.byte b) s = .next (dibitSteps (byteDibits b) s) := rfl

/-- The four dibits of a byte run one after the other, the most significant first (R220, R650). -/
theorem dibitSteps_byteDibits (b : Byte) (s : State) :
    dibitSteps (byteDibits b) s =
      dibitStep (b.extractLsb' 0 2) (dibitStep (b.extractLsb' 2 2)
        (dibitStep (b.extractLsb' 4 2) (dibitStep (b.extractLsb' 6 2) s))) := by
  simp only [byteDibits, dibitSteps_cons, dibitSteps_nil]

/-! ### The word of a byte -/

/-- Zero-extension fills the must-be-zero part of a byte's data field with zeros (R302). -/
theorem zeroExtend_byte (b : Byte) : b.zeroExtend 64 = 0#56 ++ b :=
  BitVec.setWidth_eq_append (by decide)

/-- The word of a byte, field by field (R300 to R302). -/
theorem encode_byte (b : Byte) : encode (.byte b) = 2#3 ++ 0#56 ++ b := by
  rw [encode, zeroExtend_byte, BitVec.append_assoc]
  rfl

/-- The word of a byte decodes to it: its op code is 010, and zero-extension leaves its must-be-zero bits zero (R301,
R302). -/
theorem decode_encode_byte (b : Byte) : decode (encode (.byte b)) = .txn (.byte b) := by
  have mustBeZero : (0#56 ++ b).extractLsb' 8 56 = 0 := BitVec.extractLsb'_append_eq_left
  have operand : (0#56 ++ b).extractLsb' 0 8 = b := BitVec.extractLsb'_append_eq_right
  rw [encode, zeroExtend_byte]
  simp [decode, Laws.opField_wordOf, Laws.dataField_wordOf, requireZero, mustBeZero, operand]

/-- Settles O15: the states between are those the byte's dibits leave one by one, and the port runs the byte's word as
the byte. -/
theorem byteIsFourDibits : Obligations.ByteIsFourDibits := by
  unfold Obligations.ByteIsFourDibits
  intro b s
  have decodes : decode (2#3 ++ 0#56 ++ b) = .txn (.byte b) := encode_byte b ▸ decode_encode_byte b
  refine ⟨⟨_, _, _, _, exec_dibit _ s, exec_dibit _ _, exec_dibit _ _, exec_dibit _ _, ?_⟩, encode_byte b, decodes,
    fun _ legal unmarked waits => step_of_txn legal unmarked waits decodes⟩
  rw [exec_byte, dibitSteps_byteDibits]

end Sys2Proof.Machine

/-! SUPPORT. Statements of 30_encoding.md: which words decode, to what, and which are refused (R300 to R303). -/

namespace Sys2Proof.Machine

/-! ### The fields of a word -/

theorem wordOf_opField_dataField (w : TxnWord) : wordOf (opField w) (dataField w) = w :=
  BitVec.extractLsb'_append_extractLsb' (w := 3) (len := 64)

/-- A field of the data field is a field of the word (R300). -/
theorem extractLsb'_dataField {start len : Nat} (w : TxnWord) (inside : start + len ≤ 64) :
    (dataField w).extractLsb' start len = w.extractLsb' start len := by
  simp [dataField, BitVec.extractLsb'_extractLsb'_of_le inside]

/-- The eight op codes: the four of rule R301 and the reserved ones. -/
theorem op_cases (op : BitVec 3) : op = 1 ∨ op = 2 ∨ op = 3 ∨ op = 4 ∨ op = 0 ∨ op = 5 ∨ op = 6 ∨ op = 7 := by
  decide +revert

/-- Everything decoding a word can do: one case for each op code of rule R301, and the reserved ones. -/
theorem decode_cases (w : TxnWord) :
    (opField w = 1 ∧ decode w = requireZero (w.extractLsb' 2 62) (.dibit (w.extractLsb' 0 2))) ∨
    (opField w = 2 ∧ decode w = requireZero (w.extractLsb' 8 56) (.byte (w.extractLsb' 0 8))) ∨
    (opField w = 3 ∧ decode w = .txn (.timeHint (dataField w))) ∨
    (opField w = 4 ∧ decode w = requireZero (dataField w) .reset) ∨
    ((opField w = 0 ∨ opField w = 5 ∨ opField w = 6 ∨ opField w = 7) ∧ decode w = .error .reservedOp) := by
  obtain h | h | h | h | h | h | h | h := op_cases (opField w)
  · exact .inl ⟨h, by simp [decode, h, extractLsb'_dataField]⟩
  · exact .inr (.inl ⟨h, by simp [decode, h, extractLsb'_dataField]⟩)
  · exact .inr (.inr (.inl ⟨h, by simp [decode, h]⟩))
  · exact .inr (.inr (.inr (.inl ⟨h, by simp [decode, h]⟩)))
  all_goals exact .inr (.inr (.inr (.inr ⟨by simp [h], by simp [decode, h]⟩)))

theorem requireZero_eq_txn {n : Nat} {z : BitVec n} {i j : Instr} :
    requireZero z i = .txn j ↔ z = 0 ∧ i = j := by
  by_cases zero : z = 0#n
  · simp [requireZero, zero]
  · simp [requireZero, zero]

theorem requireZero_eq_error {n : Nat} {z : BitVec n} {i : Instr} {e : DecodeError} :
    requireZero z i = .error e ↔ z ≠ 0 ∧ e = .nonzeroField := by
  by_cases zero : z = 0#n
  · simp [requireZero, zero]
  · simpa [requireZero, zero] using eq_comm

/-! ### Words and transactions -/

/-- Zero-extension fills the must-be-zero part of a dibit's data field with zeros (R302). -/
theorem zeroExtend_dibit (d : Dibit) : d.zeroExtend 64 = 0#62 ++ d :=
  BitVec.setWidth_eq_append (by decide)

/-- The word of a dibit, field by field (R300 to R302). -/
theorem encode_dibit (d : Dibit) : encode (.dibit d) = 1#3 ++ 0#62 ++ d := by
  rw [encode, zeroExtend_dibit, BitVec.append_assoc]
  rfl

/-- The word of a dibit decodes to it: its op code is 001, and zero-extension leaves its must-be-zero bits zero (R301,
R302). -/
theorem decode_encode_dibit (d : Dibit) : decode (encode (.dibit d)) = .txn (.dibit d) := by
  have mustBeZero : (0#62 ++ d).extractLsb' 2 62 = 0 := BitVec.extractLsb'_append_eq_left
  have operand : (0#62 ++ d).extractLsb' 0 2 = d := BitVec.extractLsb'_append_eq_right
  rw [encode, zeroExtend_dibit]
  simp [decode, Laws.opField_wordOf, Laws.dataField_wordOf, requireZero, mustBeZero, operand]

theorem decode_encode_reset : decode (encode .reset) = .txn .reset := by
  simp [encode, decode, Laws.opField_wordOf, Laws.dataField_wordOf, requireZero]

theorem decode_encode (i : Instr) : decode (encode i) = .txn i := by
  cases i with
  | dibit d => exact decode_encode_dibit d
  | byte b => exact decode_encode_byte b
  | timeHint t => exact decode_wordOf_timeHint t
  | reset => exact decode_encode_reset

/-- Data whose must-be-zero bits are zero are the operand below them, zero-extended (R302). -/
theorem zeroExtend_operand {w : TxnWord} {n : Nat} (hzero : w.extractLsb' n (64 - n) = 0) :
    (w.extractLsb' 0 n).zeroExtend 64 = dataField w := by
  apply BitVec.eq_of_getLsbD_eq
  intro k hk
  have low : n ≤ k → w.getLsbD k = false := fun hnk => by
    have bit := congrArg (fun z => z.getLsbD (k - n)) hzero
    simpa [Nat.add_sub_cancel' hnk, show k - n < 64 - n by omega] using bit
  by_cases hkn : k < n
  · simp [dataField, hk, hkn]
  · simp [dataField, hk, hkn, low (by omega)]

theorem encode_decode {w : TxnWord} {i : Instr} (h : decode w = .txn i) : encode i = w := by
  have word := wordOf_opField_dataField w
  obtain ⟨op, run⟩ | ⟨op, run⟩ | ⟨op, run⟩ | ⟨op, run⟩ | ⟨-, run⟩ := decode_cases w <;> rw [run] at h
  · obtain ⟨zero, rfl⟩ := requireZero_eq_txn.mp h
    rw [encode, zeroExtend_operand zero, ← op, word]
  · obtain ⟨zero, rfl⟩ := requireZero_eq_txn.mp h
    rw [encode, zeroExtend_operand zero, ← op, word]
  · obtain rfl := Decoded.txn.inj h
    rw [encode, ← op, word]
  · obtain ⟨zero, rfl⟩ := requireZero_eq_txn.mp h
    rw [encode, ← op, ← zero, word]
  · simp at h

/-- A word decodes to a transaction exactly if it is that transaction's word (decision D2). -/
theorem decode_eq_txn_iff {w : TxnWord} {i : Instr} : decode w = .txn i ↔ w = encode i :=
  ⟨fun h => (encode_decode h).symm, fun h => h ▸ decode_encode i⟩

/-- Settles O1: each of the four words decodes to its transaction. -/
theorem transactionsRoundTrip : Obligations.TransactionsRoundTrip := by
  unfold Obligations.TransactionsRoundTrip
  exact fun i _ => decode_encode i

/-- Settles O2: the op code and the must-be-zero bits are checked, and all other bits are the operand. -/
theorem everyLegalWordIsAnEncoding : Obligations.EveryLegalWordIsAnEncoding := by
  unfold Obligations.EveryLegalWordIsAnEncoding
  exact fun w i => encode_decode

/-! ### The opcode table -/

/-- A mask that keeps the high bits, and the match and operand of a row, together say what the word is. -/
theorem and_mask_eq_iff {m n : Nat} (w : BitVec (m + n)) (v : BitVec m) (x : BitVec n) :
    w &&& (BitVec.allOnes m ++ 0#n) = v ++ 0#n ∧ w.extractLsb' 0 n = x ↔ w = v ++ x := by
  constructor
  · rintro ⟨masked, rfl⟩
    rw [← BitVec.extractLsb'_append_extractLsb' (x := w), BitVec.and_append, BitVec.and_allOnes, BitVec.and_zero,
      BitVec.append_left_inj] at masked
    rw [← masked, BitVec.extractLsb'_append_extractLsb']
  · rintro rfl
    rw [BitVec.and_append, BitVec.and_allOnes, BitVec.and_zero, BitVec.extractLsb'_append_eq_right]
    exact ⟨rfl, rfl⟩

/-- Settles O3: a row of the table matches exactly the words of its transaction. -/
theorem decodeFollowsTheOpcodeTable : Obligations.DecodeFollowsTheOpcodeTable := by
  unfold Obligations.DecodeFollowsTheOpcodeTable
  intro w
  refine ⟨fun d => ?_, fun b => ?_, fun t => ?_, ?_⟩
  · rw [decode_eq_txn_iff, encode_dibit]
    exact (and_mask_eq_iff w (1#3 ++ 0#62) d).symm
  · rw [decode_eq_txn_iff, encode_byte]
    exact (and_mask_eq_iff w (2#3 ++ 0#56) b).symm
  · rw [decode_eq_txn_iff]
    exact (and_mask_eq_iff w 3#3 t).symm
  · have mask : w &&& 0x7ffffffffffffffff#67 = w := BitVec.and_allOnes
    rw [decode_eq_txn_iff, mask]
    rfl

/-! ### Refused words -/

theorem decode_eq_reservedOp_iff {w : TxnWord} :
    decode w = .error .reservedOp ↔ opField w = 0 ∨ opField w = 5 ∨ opField w = 6 ∨ opField w = 7 := by
  obtain ⟨op, run⟩ | ⟨op, run⟩ | ⟨op, run⟩ | ⟨op, run⟩ | ⟨op, run⟩ := decode_cases w
  · simp [run, op, requireZero_eq_error]
  · simp [run, op, requireZero_eq_error]
  · simp [run, op]
  · simp [run, op, requireZero_eq_error]
  · exact ⟨fun _ => op, fun _ => run⟩

theorem decode_eq_nonzeroField_iff {w : TxnWord} :
    decode w = .error .nonzeroField ↔
      (opField w = 1 ∧ w.extractLsb' 2 62 ≠ 0) ∨ (opField w = 2 ∧ w.extractLsb' 8 56 ≠ 0) ∨
        (opField w = 4 ∧ dataField w ≠ 0) := by
  obtain ⟨op, run⟩ | ⟨op, run⟩ | ⟨op, run⟩ | ⟨op, run⟩ | ⟨op, run⟩ := decode_cases w
  · simp [run, op, requireZero_eq_error]
  · simp [run, op, requireZero_eq_error]
  · simp [run, op]
  · simp [run, op, requireZero_eq_error]
  · obtain op | op | op | op := op <;> simp [run, op]

/-- Settles O4: the op code is looked at first, then the must-be-zero bits of its row. -/
theorem illegalWordsAreRefusedByName : Obligations.IllegalWordsAreRefusedByName := by
  unfold Obligations.IllegalWordsAreRefusedByName
  exact fun w => ⟨decode_eq_reservedOp_iff, decode_eq_nonzeroField_iff, rfl⟩

/-- Settles O5: each of the first four words is the encoding of its transaction, the fifth has a reserved op code, and
the sixth a bit above its dibit. -/
theorem writtenOutWordsDecode : Obligations.WrittenOutWordsDecode := by
  unfold Obligations.WrittenOutWordsDecode
  refine ⟨decode_eq_txn_iff.mpr ?_, decode_eq_txn_iff.mpr ?_, decode_eq_txn_iff.mpr ?_, decode_eq_txn_iff.mpr ?_,
    decode_eq_reservedOp_iff.mpr ?_, decode_eq_nonzeroField_iff.mpr ?_⟩
  all_goals decide

end Sys2Proof.Machine

/-! SUPPORT. Statements of 20_memory.md and 40_sync_matcher.md section 2: the layout of a burst (R210), its bytes fed
back (R221), unpacking as the inverse of packing (R21, R222), the pseudo-transactions (R341) and the rotations of words
(R401 to R403). -/

namespace Sys2Proof.Machine

/-! ### Packing and unpacking -/

/-- Packing the unpacked dibits of a number leaves the bits that were unpacked (R21). -/
theorem packNat_unpackNat (k v : Nat) : packNat (unpackNat k v) = v % 4 ^ k := by
  induction k with
  | zero => simp [unpackNat, packNat_nil, Nat.mod_one]
  | succ k ih =>
    have high : packNat [BitVec.ofNat 2 (v / 4 ^ k)] = v / 4 ^ k % 4 := by simp [packNat]
    rw [unpackNat, ← List.singleton_append, packNat_append, ih, high, length_unpackNat, Nat.mod_pow_succ]
    ring

/-- Packing loses no dibit that fits the width (R21). -/
theorem pack_injective {w : Nat} {xs ys : List Dibit} (length : xs.length = ys.length) (fits : 2 * xs.length ≤ w)
    (h : pack w xs = pack w ys) : xs = ys := by
  refine List.ext_getElem length fun i hx hy => ?_
  rw [← extractLsb'_pack_dibit fits hx, ← extractLsb'_pack_dibit (length ▸ fits) hy, h, length]

/-- The dibits of a word pack to it (R222). -/
@[simp] theorem pack_syncWordDibits (w : SyncWord) : pack 48 (syncWordDibits w) = w := by
  apply BitVec.eq_of_toNat_eq
  rw [toNat_pack (by simp), syncWordDibits, packNat_unpackNat, Nat.mod_eq_of_lt (b := 4 ^ 24) w.isLt]

/-- Unpacking undoes packing (R222). -/
theorem syncWordDibits_pack {ds : List Dibit} (length : ds.length = 24) : syncWordDibits (pack 48 ds) = ds :=
  pack_injective (by simp [length]) (by simp) (pack_syncWordDibits _)

/-- Dibit `k` of a word, counted from the low end, is dibit `23 - k` in the order of R222. -/
theorem extractLsb'_syncWord {w : SyncWord} {k : Nat} (hk : k < 24) :
    w.extractLsb' (2 * k) 2 = (syncWordDibits w)[23 - k]'(by rw [length_syncWordDibits]; omega) := by
  have dibit := extractLsb'_pack_dibit (w := 48) (ds := syncWordDibits w) (i := 23 - k) (by simp)
    (by rw [length_syncWordDibits]; omega)
  have place : 2 * 24 - 2 - 2 * (23 - k) = 2 * k := by omega
  simpa only [pack_syncWordDibits, length_syncWordDibits, place] using dibit

/-- A word is given by its 24 dibits. -/
theorem syncWord_ext {v w : SyncWord} (h : ∀ k < 24, v.extractLsb' (2 * k) 2 = w.extractLsb' (2 * k) 2) : v = w := by
  apply BitVec.eq_of_getLsbD_eq
  intro i hi
  have bit := congrArg (fun d => d.getLsbD (i % 2)) (h (i / 2) (by omega))
  simpa [Nat.le_of_lt_succ (Nat.mod_lt i two_pos), Nat.div_add_mod] using bit

/-! ### The rotations -/

theorem rotDibit_inverseLock (lock : CarrierLock) (d : Dibit) : rotDibit (inverseLock lock) (rotDibit lock d) = d := by
  cases lock <;> decide +revert

theorem rotDibit_plus90_twice (d : Dibit) : rotDibit .plus90 (rotDibit .plus90 d) = rotDibit .inverted d := by
  decide +revert

/-- Rotating packed dibits rotates each of them (R401). -/
theorem rotWord_pack (lock : CarrierLock) {ds : List Dibit} (length : ds.length = 24) :
    rotWord lock (pack 48 ds) = pack 48 (ds.map (rotDibit lock)) := by
  rw [rotWord, syncWordDibits_pack length]

/-- Two rotations in a row rotate each dibit twice (R401). -/
theorem rotWord_rotWord (a b : CarrierLock) (w : SyncWord) :
    rotWord a (rotWord b w) = pack 48 ((syncWordDibits w).map fun d => rotDibit a (rotDibit b d)) := by
  have inner : rotWord b w = pack 48 ((syncWordDibits w).map (rotDibit b)) := rfl
  rw [inner, rotWord_pack a (by simp), List.map_map]
  rfl

/-- The inverse rotation undoes a rotation (R403). -/
theorem rotWord_inverseLock (lock : CarrierLock) (w : SyncWord) : rotWord (inverseLock lock) (rotWord lock w) = w := by
  simp [rotWord_rotWord, rotDibit_inverseLock]

/-- Two quarter turns are a half turn (R402). -/
theorem rotWord_plus90_twice (w : SyncWord) : rotWord .plus90 (rotWord .plus90 w) = rotWord .inverted w := by
  simp only [rotWord_rotWord, rotDibit_plus90_twice]
  rfl

/-- A rotation permutes each dibit in place (R401). -/
theorem extractLsb'_rotWord (lock : CarrierLock) (w : SyncWord) {k : Nat} (hk : k < 24) :
    (rotWord lock w).extractLsb' (2 * k) 2 = rotDibit lock (w.extractLsb' (2 * k) 2) := by
  simp only [extractLsb'_syncWord hk]
  simp [rotWord, syncWordDibits_pack]

/-- A half turn flips every bit (R402). -/
theorem rotWord_inverted (w : SyncWord) : rotWord .inverted w = w ^^^ 0xFFFFFFFFFFFF#48 := by
  have ones : ∀ k < 24, (0xFFFFFFFFFFFF#48).extractLsb' (2 * k) 2 = 3#2 := by decide
  refine syncWord_ext fun k hk => ?_
  rw [extractLsb'_rotWord .inverted w hk, BitVec.extractLsb'_xor, ones k hk]
  rfl

/-- Settles O33: a rotation acts on each dibit, so each law of words is one of dibits. -/
theorem rotationsOfWords : Obligations.RotationsOfWords := by
  unfold Obligations.RotationsOfWords
  exact ⟨⟨rfl, rfl, rfl, fun _ => rfl⟩, fun lock w _ hk => extractLsb'_rotWord lock w hk, ⟨rfl, rfl, rfl⟩,
    rotWord_inverseLock, rotWord_plus90_twice, rotWord_inverted⟩

/-! ### The sync field of a burst -/

/-- The sync field of a burst is the one of the message buffer (R207, R210). -/
theorem burstSyncField_burstValue (mb : DibitDelayBuffer 144) : burstSyncField (burstValue mb) = syncFieldValue mb :=
  extractLsb'_burstValue_slice mb (offset := 66) (length := 24) (by decide)

/-- Rotating the message buffer rotates its sync field (R206, R401). -/
theorem syncFieldValue_bufRotate (lock : CarrierLock) (mb : DibitDelayBuffer 144) :
    syncFieldValue (bufRotate mb (rotDibit lock)) = rotWord lock (syncFieldValue mb) := by
  have rotated : bufSlice (bufRotate mb (rotDibit lock)) 66 24 = (bufSlice mb 66 24).map (rotDibit lock) := by
    simp [bufSlice, List.map_take, List.map_drop]
  rw [syncFieldValue, syncFieldValue, rotated, rotWord_pack lock (length_bufSlice mb (by decide))]

/-- Settles O39: each region is a window of the packed message buffer. -/
theorem burstLayout : Obligations.BurstLayout := by
  unfold Obligations.BurstLayout
  intro mb
  exact ⟨extractLsb'_burstValue_slice mb (offset := 0) (length := 12) (by decide),
    extractLsb'_burstValue_slice mb (offset := 12) (length := 54) (by decide), burstSyncField_burstValue mb,
    extractLsb'_burstValue_slice mb (offset := 90) (length := 54) (by decide)⟩

/-! ### The bytes of a burst, fed back -/

/-- Unpacking undoes the packing of four dibits into a byte (R220). -/
theorem byteDibits_pack {ds : List Dibit} (length : ds.length = 4) : byteDibits (pack 8 ds) = ds :=
  pack_injective (by rw [length, length_byteDibits]) (by rw [length_byteDibits]) (pack_byteDibits _)

/-- Consecutive windows of four are the start of the list. -/
theorem flatMap_windows_of_four {α : Type} (l : List α) (k : Nat) :
    (List.range k).flatMap (fun j => (l.drop (4 * j)).take 4) = l.take (4 * k) := by
  induction k with
  | zero => simp
  | succ k ih => rw [List.range_succ, List.flatMap_append, ih, List.flatMap_singleton, Nat.mul_succ, List.take_add]

/-- Settles O40: byte `j` unpacks to dibits `4j .. 4j+3`, and these windows make up the buffer. -/
theorem burstBytesFeedTheBurstBack : Obligations.BurstBytesFeedTheBurstBack := by
  unfold Obligations.BurstBytesFeedTheBurstBack
  intro mb
  have window : ∀ j ∈ List.range 36, byteDibits (burstByte (burstValue mb) j) = bufSlice mb (4 * j) 4 := fun j hj => by
    have inside := List.mem_range.mp hj
    rw [burstByte_burstValue mb inside, byteDibits_pack (length_bufSlice mb (by omega))]
  calc (burstBytes (burstValue mb)).flatMap byteDibits
      = (List.range 36).flatMap (fun j => byteDibits (burstByte (burstValue mb) j)) := by
        rw [burstBytes, List.flatMap_map]
    _ = (List.range 36).flatMap (fun j => bufSlice mb (4 * j) 4) := List.flatMap_congr window
    _ = mb.slots.take 144 := flatMap_windows_of_four mb.slots 36
    _ = mb.slots := List.take_of_length_le mb.size.le

/-! ### The pseudo-transactions -/

/-- A pattern without a transmitted sync field has no constant (R315). -/
theorem rom_canonical_eq_none_of_not_isReal {id : PatternId} (h : id.isReal = false) : (rom id).canonical = none := by
  revert h
  cases id <;> decide

/-- Settles O42: `WORD48 w` feeds the dibits that `w` unpacks to, and the others expand as they are written. -/
theorem pseudoTransactionsExpand : Obligations.PseudoTransactionsExpand := by
  unfold Obligations.PseudoTransactionsExpand
  refine ⟨fun w => ⟨syncWordDibits w, length_syncWordDibits w, pack_syncWordDibits w, rfl⟩, ?_, ?_, fun _ _ => rfl,
    fun _ => rfl⟩
  · intro p c hc
    simp [Pseudo.expand, hc]
  · intro p hp
    simp [Pseudo.expand, rom_canonical_eq_none_of_not_isReal hp]

end Sys2Proof.Machine

/-! SUPPORT. Statements of 00_scope.md section 4, 30_encoding.md sections 2 to 4 and 40_sync_matcher.md: which table
orders are legal (R10), the ROM and the distances of its constants (R310 to R314), the lookups (R400) and the comparators
(R411, R420 to R422, R450). -/

namespace Sys2Proof.Machine

/-! ### Legal table orders -/

theorem isReal_iff_mem {id : PatternId} : id.isReal = true ↔ id ∈ realPatterns := by
  cases id <;> decide

theorem isStandard_iff_mem {id : PatternId} :
    id.isStandard = true ↔ id ∈ [PatternId.bsData, .bsVoice, .msData, .msVoice] := by
  cases id <;> decide

theorem isLate_iff_mem {id : PatternId} :
    id.isLate = true ↔ id ∈ [PatternId.directD0, .directD1, .directV0, .directV1, .reserved] := by
  cases id <;> decide

theorem nodup_realPatterns : realPatterns.Nodup := by decide

/-- A list of ten ids that holds every real id holds each once and no other (R10). -/
theorem orderIsPermutation_iff {order : List PatternId} :
    orderIsPermutation order = true ↔ order.Perm realPatterns := by
  simp only [orderIsPermutation, Bool.and_eq_true, beq_iff_eq, List.all_eq_true, List.contains_iff_mem]
  constructor
  · rintro ⟨length, covers⟩
    exact ((nodup_realPatterns.subperm covers).perm_of_length_le length.le).symm
  · exact fun perm => ⟨perm.length_eq, fun _ => perm.mem_iff.mpr⟩

/-- No late id stands before a standard one (R10, R423). -/
theorem orderIsConstrained_iff {order : List PatternId} :
    orderIsConstrained order = true ↔ order.Pairwise fun a b => a.isLate = true → b.isStandard = false := by
  induction order with
  | nil => simp [orderIsConstrained]
  | cons id rest ih =>
    rw [List.pairwise_cons, orderIsConstrained, Bool.and_eq_true, ih]
    cases id.isLate <;> simp

/-- The constraint on an order without repetition, by the places of the ids in it. -/
theorem pairwise_iff_idxOf_lt {order : List PatternId} (nodup : order.Nodup) :
    (order.Pairwise fun a b => a.isLate = true → b.isStandard = false) ↔
      ∀ x ∈ order, x.isStandard = true → ∀ y ∈ order, y.isLate = true → order.idxOf x < order.idxOf y := by
  rw [List.pairwise_iff_getElem]
  constructor
  · intro ordered x hx standard y hy late
    by_contra notBefore
    have distinct : order.idxOf y ≠ order.idxOf x := fun same => by
      obtain rfl := (List.idxOf_inj hy).mp same
      revert standard late
      cases y <;> decide
    have hxlt := List.idxOf_lt_length_of_mem hx
    have hylt := List.idxOf_lt_length_of_mem hy
    have := ordered _ _ hylt hxlt (by omega)
    simp [late, standard] at this
  · intro before i j hi hj hij late
    by_contra standard
    have := before order[j] (List.getElem_mem hj) (by simpa using standard) order[i] (List.getElem_mem hi) late
    rw [nodup.idxOf_getElem, nodup.idxOf_getElem] at this
    omega

/-- Settles O11: the checks of the order are a permutation and a constraint on the places in it. -/
theorem legalConfigurationsAreThoseOfTheTable : Obligations.LegalConfigurationsAreThoseOfTheTable := by
  unfold Obligations.LegalConfigurationsAreThoseOfTheTable
  intro c
  rw [wellFormed_iff, orderIsPermutation_iff, orderIsConstrained_iff]
  refine and_congr_right fun _ => and_congr_right fun _ => and_congr_right fun _ => and_congr_right fun perm => ?_
  rw [pairwise_iff_idxOf_lt (perm.nodup_iff.mpr nodup_realPatterns)]
  have mem : ∀ id : PatternId, id.isStandard = true ∨ id.isLate = true → id ∈ c.tableOrder := fun id h => by
    rw [perm.mem_iff]
    revert h
    cases id <;> decide
  constructor
  · exact fun before x hx y hy => by
      have standard := isStandard_iff_mem.mpr hx
      have late := isLate_iff_mem.mpr hy
      exact before x (mem x (.inl standard)) standard y (mem y (.inr late)) late
  · exact fun before x _ standard y _ late => before x (isStandard_iff_mem.mp standard) y (isLate_iff_mem.mp late)

/-! ### The distance of two words -/

/-- The bits in which two words differ. -/
def differingBits (x y : SyncWord) : Finset Nat := {k ∈ Finset.range 48 | x.getLsbD k ≠ y.getLsbD k}

theorem popcountNat_eq_length_filter (k v : Nat) :
    popcountNat k v = ((List.range k).filter fun i => v.testBit i).length := by
  induction k generalizing v with
  | zero => rfl
  | succ k ih =>
    have low : v % 2 = if v.testBit 0 then 1 else 0 := by
      rw [Nat.testBit_zero]
      split <;> simp_all
    rw [popcountNat, ih, List.range_succ_eq_map, List.filter_cons, List.filter_map, low]
    simp only [Function.comp_def, Nat.testBit_succ]
    split <;> simp [Nat.add_comm]

/-- The comparators count the bits in which the words differ (R420). -/
theorem hamming_eq_length_filter (x y : SyncWord) :
    hamming x y = ((List.range 48).filter fun k => x.getLsbD k != y.getLsbD k).length := by
  rw [hamming, popcount, popcountNat_eq_length_filter]
  simp [BitVec.getLsbD, Nat.testBit_xor]

theorem hamming_eq_card (x y : SyncWord) : hamming x y = (differingBits x y).card := by
  have differ : (fun k => x.getLsbD k != y.getLsbD k) = fun k => decide (x.getLsbD k ≠ y.getLsbD k) := by
    funext k
    rw [Bool.eq_iff_iff, bne_iff_ne, decide_eq_true_iff]
  rw [hamming_eq_length_filter, differ]
  rfl

@[simp] theorem hamming_self (x : SyncWord) : hamming x x = 0 := by
  simp [hamming_eq_length_filter]

theorem hamming_triangle (x y z : SyncWord) : hamming x z ≤ hamming y x + hamming y z := by
  simp only [hamming_eq_card]
  refine (Finset.card_le_card fun k => ?_).trans (Finset.card_union_le _ _)
  simp only [differingBits, Finset.mem_filter, Finset.mem_union]
  grind

/-! ### The ROM -/

/-- Only a real pattern has constants (R315). -/
theorem isReal_of_romWord {lock : CarrierLock} {id : PatternId} {v : SyncWord} (h : romWord lock id = some v) :
    id.isReal = true := by
  revert h
  cases id <;> cases lock <;> simp [romWord, rom, realEntry, sentinelEntry, PatternId.isReal]

/-- The four carrier locks. -/
def allLocks : List CarrierLock := [.normal, .plus90, .minus90, .inverted]

theorem mem_allLocks (lock : CarrierLock) : lock ∈ allLocks := by cases lock <;> decide

theorem mem_rotatedLocks {lock : CarrierLock} : lock ≠ .normal ↔ lock ∈ [CarrierLock.plus90, .minus90, .inverted] := by
  cases lock <;> decide

/-- The forty constants of the ROM are different words (R314). -/
theorem romWord_distinct : ∀ lock ∈ allLocks, ∀ id ∈ realPatterns, ∀ lock' ∈ allLocks, ∀ id' ∈ realPatterns,
    romWord lock id = romWord lock' id' → id = id' ∧ lock = lock' := by decide +kernel

/-- A word is the constant of at most one pattern under one lock (R314). -/
theorem romWord_injective {lock lock' : CarrierLock} {id id' : PatternId} {v : SyncWord}
    (h : romWord lock id = some v) (h' : romWord lock' id' = some v) : id = id' ∧ lock = lock' :=
  romWord_distinct lock (mem_allLocks _) id (isReal_iff_mem.mp (isReal_of_romWord h)) lock' (mem_allLocks _) id'
    (isReal_iff_mem.mp (isReal_of_romWord h')) (h.trans h'.symm)

/-- The rotated constants of the table are the rotations of the canonical ones (R314, R401). -/
theorem romWord_eq_map_rotWord : ∀ id ∈ allPatternIds, ∀ lock ∈ [CarrierLock.plus90, .minus90, .inverted],
    romWord lock id = (rom id).canonical.map (rotWord lock) ∧ ((rom id).canonical.isSome = id.isReal) := by
  decide +kernel

/-- Two canonical constants are at least 10 apart (R422). -/
theorem canonical_distance : ∀ a ∈ realPatterns, ∀ b ∈ realPatterns, a ≠ b →
    (rom a).canonical.all (fun x => (rom b).canonical.all (fun y => decide (10 ≤ hamming x y))) = true := by
  decide +kernel

/-- A rotated constant is at least 24 from every canonical one (R421). -/
theorem rotated_distance : ∀ a ∈ realPatterns, ∀ b ∈ realPatterns,
    ∀ lock ∈ [CarrierLock.plus90, .minus90, .inverted],
    (romWord lock a).all (fun x => (rom b).canonical.all (fun y => decide (24 ≤ hamming x y))) = true := by
  decide +kernel

/-- Settles O30: the constants by the table, the distance by the bits of the exclusive or. -/
theorem romConstantsAreConsistent : Obligations.RomConstantsAreConsistent := by
  unfold Obligations.RomConstantsAreConsistent
  exact ⟨romWord_eq_map_rotWord, canonical_distance, rotated_distance, hamming_eq_length_filter⟩

/-- The code of a pattern is its place in the list of ids (R312). -/
theorem patternOfCode_patternCode (id : PatternId) : patternOfCode (patternCode id) = some id := by
  cases id <;> rfl

@[simp] theorem rom_id (id : PatternId) : (rom id).id = id := by
  cases id <;> rfl

/-- Codes 21 to 31 are reserved (R318). -/
theorem patternOfCode_of_ge {code : BitVec 5} (h : 21 ≤ code.toNat) : patternOfCode code = none :=
  List.getElem?_eq_none h

/-- A pattern that is not real has no rotated constant (R315). -/
theorem rotated_eq_none_of_not_isReal {id : PatternId} (h : id.isReal = false) :
    (rom id).plus90 = none ∧ (rom id).minus90 = none ∧ (rom id).inverted = none := by
  revert h
  cases id <;> decide

/-- Settles O29: every row of the table is that of the ROM's record, code and direct slot for its id. -/
theorem romHoldsThePatternTable : Obligations.RomHoldsThePatternTable := by
  unfold Obligations.RomHoldsThePatternTable
  intro row rotated
  have table (id : PatternId) : row id (patternCode id) (rom id).canonical (rom id).hasCach (rom id).isData
      (rom id).isVoice (directSlot id) :=
    ⟨rfl, patternOfCode_patternCode id, rom_id id, rfl, rfl, rfl, rfl, rfl⟩
  refine ⟨table .bsData, table .bsVoice, table .msData, table .msVoice, table .directD0, table .directD1,
    table .directV0, table .directV1, table .msReverse, table .reserved, table .voiceBBs, table .voiceCBs,
    table .voiceDBs, table .voiceEBs, table .voiceFBs, table .voiceBMs, table .voiceCMs, table .voiceDMs,
    table .voiceEMs, table .voiceFMs, table .unknown, ?_⟩
  exact ⟨⟨rfl, rfl, rfl⟩, ⟨rfl, rfl, rfl⟩, ⟨rfl, rfl, rfl⟩, ⟨rfl, rfl, rfl⟩, ⟨rfl, rfl, rfl⟩, ⟨rfl, rfl, rfl⟩,
    ⟨rfl, rfl, rfl⟩, ⟨rfl, rfl, rfl⟩, ⟨rfl, rfl, rfl⟩, ⟨rfl, rfl, rfl⟩, fun _ => rotated_eq_none_of_not_isReal,
    fun _ => patternOfCode_of_ge, rfl, rfl, rfl, rfl, rfl, rfl⟩

/-! ### The lookups -/

/-- The search of one lock's constants answers the pattern that has the word (R400). -/
theorem lookupUnder_eq_some_iff {lock lock' : CarrierLock} {v : SyncWord} {id : PatternId} :
    lookupUnder lock v = some (id, lock') ↔ lock' = lock ∧ romWord lock id = some v := by
  have found : realPatterns.find? (fun id => romWord lock id == some v) = some id ↔ romWord lock id = some v := by
    constructor
    · exact fun h => by simpa using List.find?_some h
    · intro h
      cases answer : realPatterns.find? (fun id => romWord lock id == some v) with
      | none =>
        have := List.find?_eq_none.mp answer id (isReal_iff_mem.mp (isReal_of_romWord h))
        simp [h] at this
      | some id' =>
        have h' : romWord lock id' = some v := by simpa using List.find?_some answer
        rw [(romWord_injective h h').1]
  simp only [lookupUnder, Option.map_eq_some_iff, Prod.mk.injEq]
  constructor
  · rintro ⟨_, h, rfl, rfl⟩
    exact ⟨rfl, found.mp h⟩
  · rintro ⟨rfl, h⟩
    exact ⟨id, found.mpr h, rfl, rfl⟩

theorem lookup_of_romWord {lock : CarrierLock} {id : PatternId} {v : SyncWord} (h : romWord lock id = some v) :
    lookup v = (id, lock) := by
  cases answer : allLocks.findSome? (lookupUnder · v) with
  | none =>
    have := List.findSome?_eq_none_iff.mp answer lock (mem_allLocks lock)
    simp [lookupUnder_eq_some_iff.mpr ⟨rfl, h⟩] at this
  | some p =>
    obtain ⟨lock', -, h'⟩ := List.exists_of_findSome?_eq_some answer
    obtain ⟨same, const⟩ := lookupUnder_eq_some_iff.mp h'
    obtain ⟨rfl, rfl⟩ := romWord_injective h const
    rw [lookup, ← allLocks, answer, Option.getD_some, ← same]

theorem lookup_of_no_romWord {v : SyncWord} (h : ∀ id lock, romWord lock id ≠ some v) :
    lookup v = (.unknown, .normal) := by
  cases answer : allLocks.findSome? (lookupUnder · v) with
  | none => rw [lookup, ← allLocks, answer, Option.getD_none]
  | some p =>
    obtain ⟨lock', -, h'⟩ := List.exists_of_findSome?_eq_some answer
    exact absurd (lookupUnder_eq_some_iff.mp h').2 (h _ _)

/-- Settles O31: the forty constants are different, so the first pattern found is the only one. -/
theorem lookupInvertsTheRom : Obligations.LookupInvertsTheRom := by
  unfold Obligations.LookupInvertsTheRom
  intro v
  refine ⟨fun id lock real => ⟨fun answer => ?_, lookup_of_romWord⟩, lookup_of_no_romWord⟩
  by_contra other
  by_cases const : ∃ id' lock', romWord lock' id' = some v
  · obtain ⟨id', lock', h⟩ := const
    obtain ⟨rfl, rfl⟩ := Prod.mk.inj ((lookup_of_romWord h).symm.trans answer)
    exact other h
  · have unknown := lookup_of_no_romWord fun id lock h => const ⟨id, lock, h⟩
    exact real (Prod.mk.inj (answer.symm.trans unknown)).1

/-- Where every element has a value, keeping the values is mapping to them. -/
theorem map_some_filterMap {α β : Type} {f : α → Option β} {l : List α} (h : ∀ a ∈ l, (f a).isSome) :
    (l.filterMap f).map some = l.map f := by
  induction l with
  | nil => rfl
  | cons a l ih =>
    obtain ⟨b, hb⟩ := Option.isSome_iff_exists.mp (h a List.mem_cons_self)
    simp [hb, ih fun a ha => h a (List.mem_cons_of_mem _ ha)]

theorem isSome_canonical {id : PatternId} (h : id ∈ realPatterns) : ((rom id).canonical).isSome := by
  revert h
  cases id <;> decide

/-- Settles O32: every id of a legal order is real, so it has a canonical value and the table's flags. -/
theorem patternListsFollowTheTable : Obligations.PatternListsFollowTheTable := by
  unfold Obligations.PatternListsFollowTheTable
  intro c legal
  obtain ⟨-, -, -, permutation, -⟩ := (wellFormed_iff c).mp legal
  have perm := orderIsPermutation_iff.mp permutation
  have canonicals : (allPatterns c).map some = c.tableOrder.map (fun id => (rom id).canonical) :=
    map_some_filterMap fun id hid => isSome_canonical (perm.mem_iff.mp hid)
  have flags : ∀ id ∈ realPatterns,
      (rom id).isVoice = decide (id = .bsVoice ∨ id = .msVoice ∨ id = .directV0 ∨ id = .directV1) ∧
      (rom id).hasCach = decide (id = .bsData ∨ id = .bsVoice) := by decide
  refine ⟨?_, canonicals, ?_, ?_⟩
  · rw [← List.length_map (f := some), canonicals, List.length_map, perm.length_eq]
    rfl
  · exact List.filter_congr fun id hid => (flags id (perm.mem_iff.mp hid)).1
  · exact List.filter_congr fun id hid => (flags id (perm.mem_iff.mp hid)).2

/-! ### Which patterns the search can accept -/

/-- Different patterns have canonical constants at least 10 apart (R422). -/
theorem ten_le_hamming {a b : PatternId} {x y : SyncWord} (hx : (rom a).canonical = some x)
    (hy : (rom b).canonical = some y) (different : a ≠ b) : 10 ≤ hamming x y := by
  have realA := isReal_iff_mem.mp (isReal_of_romWord (lock := .normal) hx)
  have realB := isReal_iff_mem.mp (isReal_of_romWord (lock := .normal) hy)
  simpa [hx, hy] using canonical_distance a realA b realB different

/-- A rotated constant is at least 24 from every canonical one (R421). -/
theorem twentyfour_le_hamming {a b : PatternId} {lock : CarrierLock} {x y : SyncWord} (rotated : lock ≠ .normal)
    (hx : romWord lock a = some x) (hy : (rom b).canonical = some y) : 24 ≤ hamming x y := by
  have realA := isReal_iff_mem.mp (isReal_of_romWord hx)
  have realB := isReal_iff_mem.mp (isReal_of_romWord (lock := .normal) hy)
  simpa [hx, hy] using rotated_distance a realA b realB lock (mem_rotatedLocks.mp rotated)

/-- What makes the search accept a pattern: a constant of it, near enough if canonical and equal if rotated (R411). -/
theorem searchHits_iff {r : SyncWord} {threshold : Nat} {id : PatternId} :
    SearchHits r threshold id ↔
      (∃ c, (rom id).canonical = some c ∧ hamming r c ≤ threshold) ∨
      ∃ lock, lock ≠ CarrierLock.normal ∧ romWord lock id = some r := by
  constructor
  · rintro ⟨c, hc, near | plus90 | minus90 | inverted⟩
    · exact .inl ⟨c, hc, near⟩
    · exact .inr ⟨.plus90, by decide, plus90⟩
    · exact .inr ⟨.minus90, by decide, minus90⟩
    · exact .inr ⟨.inverted, by decide, inverted⟩
  · rintro (⟨c, hc, near⟩ | ⟨lock, rotated, const⟩)
    · exact ⟨c, hc, .inl near⟩
    · obtain ⟨c, hc⟩ := Option.isSome_iff_exists.mp (isSome_canonical (isReal_iff_mem.mp (isReal_of_romWord const)))
      refine ⟨c, hc, .inr ?_⟩
      cases lock with
      | normal => exact absurd rfl rotated
      | plus90 => exact .inl const
      | minus90 => exact .inr (.inl const)
      | inverted => exact .inr (.inr const)

theorem searchHits_of_searchPattern {r : SyncWord} {threshold : Nat} {id : PatternId} {m : Match}
    (h : searchPattern r threshold id = some m) : SearchHits r threshold id := by
  by_contra miss
  simp [searchPattern_eq_none_iff.mpr miss] at h

/-- Every match is of a listed pattern that the search accepts (R411). -/
theorem searchCompare_isSome_of_mem {order : List PatternId} {r : SyncWord} {threshold : Nat} {id : PatternId}
    (mem : id ∈ order) (hits : SearchHits r threshold id) : ∃ m, searchCompare order r threshold = some m := by
  rw [← Option.ne_none_iff_exists']
  exact fun silent => searchCompare_eq_none_iff.mp silent id mem hits

theorem mem_order {order : List PatternId} (permutation : orderIsPermutation order = true) {id : PatternId} :
    id ∈ order ↔ id.isReal = true := by
  rw [(orderIsPermutation_iff.mp permutation).mem_iff, isReal_iff_mem]

theorem isReal_of_searchHits {r : SyncWord} {threshold : Nat} {id : PatternId} (h : SearchHits r threshold id) :
    id.isReal = true := by
  obtain ⟨c, hc, -⟩ := h
  exact isReal_of_romWord (lock := .normal) hc

/-- A rotated constant is its own pattern's under its own rotation, and near to no canonical one (R421). -/
theorem searchCompare_rotated {order : List PatternId} (permutation : orderIsPermutation order = true)
    {threshold : Nat} (small : threshold ≤ 23) {id : PatternId} {lock : CarrierLock} (rotated : lock ≠ .normal)
    {r : SyncWord} (const : romWord lock id = some r) : searchCompare order r threshold = some ⟨id, lock, 0⟩ := by
  have mem := (mem_order permutation).mpr (isReal_of_romWord const)
  obtain ⟨m, answer⟩ := searchCompare_isSome_of_mem (threshold := threshold) mem
    (searchHits_iff.mpr (.inr ⟨lock, rotated, const⟩))
  obtain ⟨-, -, -, -, reports⟩ := searchCompare_some answer
  obtain ⟨c, hc, -, ⟨-, -, near⟩ | ⟨-, errors, -, const'⟩⟩ := searchPattern_some reports
  · have := twentyfour_le_hamming rotated const hc
    omega
  · obtain ⟨sameId, sameLock⟩ := romWord_injective const' const
    rw [answer, ← sameId, ← sameLock, ← errors]

/-- Settles O26: the rotation of a canonical constant is the ROM's rotated constant. -/
theorem rotatedConstantsAreClassified : Obligations.RotatedConstantsAreClassified := by
  unfold Obligations.RotatedConstantsAreClassified
  intro order threshold id lock c permutation small rotated hc
  have real := isReal_iff_mem.mp (isReal_of_romWord (lock := .normal) hc)
  have const := (romWord_eq_map_rotWord id (List.mem_append_left _ real) lock (mem_rotatedLocks.mp rotated)).1
  rw [hc, Option.map_some] at const
  exact searchCompare_rotated permutation small rotated const

/-- Up to threshold 4 the search accepts at most one pattern (R422). -/
theorem searchHits_unique {r : SyncWord} {threshold : Nat} (small : threshold ≤ 4) {id id' : PatternId}
    (h : SearchHits r threshold id) (h' : SearchHits r threshold id') : id = id' := by
  obtain ⟨c, hc, near⟩ | ⟨lock, rotated, const⟩ := searchHits_iff.mp h <;>
    obtain ⟨c', hc', near'⟩ | ⟨lock', rotated', const'⟩ := searchHits_iff.mp h'
  · by_contra different
    have := ten_le_hamming hc hc' different
    have := hamming_triangle c r c'
    omega
  · have := twentyfour_le_hamming rotated' const' hc
    omega
  · have := twentyfour_le_hamming rotated const hc'
    omega
  · exact (romWord_injective const const').1

/-- Settles O27: the one pattern that can be accepted stands in both orders, and its tests do not look at the order. -/
theorem tableOrderIsIrrelevantUpToFour : Obligations.TableOrderIsIrrelevantUpToFour := by
  unfold Obligations.TableOrderIsIrrelevantUpToFour
  intro order order' r threshold permutation permutation' small
  cases answer : searchCompare order r threshold with
  | none =>
    refine (searchCompare_eq_none_iff.mpr fun id mem => ?_).symm
    exact searchCompare_eq_none_iff.mp answer id ((mem_order permutation).mpr ((mem_order permutation').mp mem))
  | some m =>
    obtain ⟨-, -, -, -, reports⟩ := searchCompare_some answer
    have hits := searchHits_of_searchPattern reports
    obtain ⟨m', answer'⟩ :=
      searchCompare_isSome_of_mem ((mem_order permutation').mpr (isReal_of_searchHits hits)) hits
    obtain ⟨-, -, -, -, reports'⟩ := searchCompare_some answer'
    have same := searchHits_unique small hits (searchHits_of_searchPattern reports')
    rw [← same, reports] at reports'
    rw [answer', reports']

/-- No constant is near to zero: the canonical ones have more than 24 ones, and no rotated one is zero (R420). -/
theorem romWord_far_from_zero : ∀ id ∈ realPatterns,
    (rom id).canonical.all (fun c => decide (24 < hamming 0 c)) = true ∧
      ∀ lock ∈ allLocks, romWord lock id ≠ some 0 := by
  decide +kernel

/-- Settles O28: no pattern accepts a register of zeros. -/
theorem zeroRegisterNeverMatches : Obligations.ZeroRegisterNeverMatches := by
  unfold Obligations.ZeroRegisterNeverMatches
  intro order threshold legal
  rw [searchCompare_eq_none_iff]
  intro id _ hits
  obtain ⟨far, nonzero⟩ := romWord_far_from_zero id (isReal_iff_mem.mp (isReal_of_searchHits hits))
  obtain ⟨c, hc, near⟩ | ⟨lock, -, const⟩ := searchHits_iff.mp hits
  · simp only [hc, Option.all_some, decide_eq_true_eq] at far
    omega
  · exact nonzero lock (mem_allLocks lock) const

/-! ### The tracker's comparison -/

theorem exactPattern_eq_none_iff {f : SyncWord} {id : PatternId} :
    exactPattern f id = none ↔ (rom id).canonical ≠ some f := by
  rw [exactPattern]
  split <;> simp [*]

theorem softPattern_eq_none_iff {f : SyncWord} {threshold : Nat} {id : PatternId} :
    softPattern f threshold id = none ↔ ∀ c, (rom id).canonical = some c → threshold < hamming f c := by
  cases hc : (rom id).canonical with
  | none => simp [softPattern, hc]
  | some c =>
    simp only [softPattern, hc, Option.some.injEq, forall_eq']
    split <;> simp_all

/-- The exact pass fails for every pattern, and then the soft pass fails for every pattern (R450). -/
theorem syncCompare_eq_none_iff {order : List PatternId} {f : SyncWord} {threshold : Nat} :
    syncCompare order f threshold = none ↔
      (∀ id ∈ order, (rom id).canonical ≠ some f) ∧
        ∀ id ∈ order, ∀ c, (rom id).canonical = some c → threshold < hamming f c := by
  simp only [← exactPattern_eq_none_iff, ← softPattern_eq_none_iff, ← List.findSome?_eq_none_iff]
  obtain ⟨m, first, answer⟩ | ⟨first, answer⟩ := syncCompare_cases order f threshold <;> simp [first, answer]

/-- A match of the tracker's comparison is the exact pass's, or the soft pass's where no constant is the field
(R450). -/
theorem syncCompare_some {order : List PatternId} {f : SyncWord} {threshold : Nat} {m : Match}
    (h : syncCompare order f threshold = some m) :
    ∃ c before after, (rom m.id).canonical = some c ∧ m = ⟨m.id, .normal, hamming f c⟩ ∧
      order = before ++ m.id :: after ∧
      (c = f ∨ hamming f c ≤ threshold ∧ (∀ id ∈ order, (rom id).canonical ≠ some f) ∧
        ∀ id ∈ before, ∀ p, (rom id).canonical = some p → threshold < hamming f p) := by
  obtain ⟨m', first, answer⟩ | ⟨first, answer⟩ := syncCompare_cases order f threshold
  · obtain rfl := Option.some.inj (h.symm.trans answer)
    obtain ⟨before, id, after, split, hm, -⟩ := List.findSome?_eq_some_iff.mp first
    obtain ⟨hc, rfl⟩ := exactPattern_some hm
    exact ⟨f, before, after, hc, by rw [hamming_self], split, .inl rfl⟩
  · rw [answer] at h
    obtain ⟨before, id, after, split, hm, earlier⟩ := List.findSome?_eq_some_iff.mp h
    obtain ⟨c, hc, rfl, near⟩ := softPattern_some hm
    refine ⟨c, before, after, hc, rfl, split, .inr ⟨near, ?_, ?_⟩⟩
    · exact fun id hid => exactPattern_eq_none_iff.mp (List.findSome?_eq_none_iff.mp first id hid)
    · exact fun id hid => softPattern_eq_none_iff.mp (earlier id hid)

/-- Settles O25: the exact pass answers with 0 errors, and the soft pass with the distance. -/
theorem syncCompareIsExactThenSoft : Obligations.SyncCompareIsExactThenSoft := by
  unfold Obligations.SyncCompareIsExactThenSoft
  intro order f threshold
  constructor
  · rw [syncCompare_eq_none_iff]
    constructor
    · rintro ⟨unequal, far⟩ id hid c hc
      exact ⟨fun same => unequal id hid (same ▸ hc), far id hid c hc⟩
    · exact fun h => ⟨fun id hid hc => (h id hid f hc).1 rfl, fun id hid c hc => (h id hid c hc).2⟩
  · intro m answer
    obtain ⟨c, before, after, hc, hm, split, tests⟩ := syncCompare_some answer
    rw [hm]
    exact ⟨rfl, c, before, after, hc, rfl, split, tests⟩

end Sys2Proof.Machine

/-! SUPPORT. Statements of 42_burst_framer.md sections 2 to 6: the rows of the FSM table as whole states (R510 to R541),
and the toggle of the current tracker (R524). -/

namespace Sys2Proof.Machine

/-! ### The framer's operations as whole states -/

section Operations

variable (s : State)

/-- The padding of a burst's step: one sync-loss for the dibits beyond 144, or nothing (R540). -/
def padding : List Event :=
  if 144 < s.cnt.toNat then [.syncLoss (BitVec.ofNat 32 (2 * (s.cnt.toNat - 144))) s.ms] else []

/-- The clock after the padding of a burst's step (R540, R603). -/
def paddedClock : Millis :=
  if 144 < s.cnt.toNat then s.ms + BitVec.ofNat 64 (roundMillis (2 * (s.cnt.toNat - 144))) else s.ms

/-- The burst that `EMIT_BURST` emits (R541). -/
def emittedBurst (id : PatternId) (errors : BitVec 8) (lock : CarrierLock) : Burst :=
  ⟨burstValue s.mb, id, lock, errors, slotFor s.cfg id (burstValue s.mb) s.lastSlot, paddedClock s⟩

theorem padBurst_eq : padBurst s = { s with ms := paddedClock s, out := s.out ++ padding s } := by
  obtain ⟨above, pads⟩ | ⟨within, same⟩ := padBurst_cases s
  · simp [pads, padding, paddedClock, above, syncLossEvent, State.emit]
  · simp [same, padding, paddedClock, within.not_gt]

variable {s} in
theorem lossCheck_of_above (above : 4944 < s.cnt.toNat) :
    lossCheck s = { syncLossEvent 9600 s with cnt := s.cnt - 4800 } := by
  obtain ⟨-, reports⟩ | ⟨within, -⟩ := lossCheck_cases s
  · exact reports
  · omega

variable {s} in
theorem lossCheck_of_within (within : s.cnt.toNat ≤ 4944) : lossCheck s = s := by
  obtain ⟨above, -⟩ | ⟨-, same⟩ := lossCheck_cases s
  · omega
  · exact same

theorem commandPll_eq (lock : CarrierLock) :
    commandPll lock s = { s with out := s.out ++ fireCommands s.cfg lock } := by
  cases lock <;> cases present : s.cfg.pllPresent <;>
    simp [commandPll, fireCommands, pllOffset, present, State.emit]

theorem setCurrent_eq (t : Tracker) :
    s.setCurrent t = { s with
      trk0 := if s.cur = .primary then t else s.trk0
      trk1 := if s.cur = .secondary then t else s.trk1 } := by
  cases selected : s.cur <;> simp [State.setCurrent, selected]

/-- `EMIT_BURST` as a whole state (R540, R541). -/
theorem emitBurst_eq (id : PatternId) (errors : BitVec 8) (lock : CarrierLock) :
    emitBurst id errors lock s = { s with
      cnt := 0
      lastSlot := slotFor s.cfg id (burstValue s.mb) s.lastSlot
      ms := paddedClock s
      out := s.out ++ padding s ++ [.burst (emittedBurst s id errors lock)] } := by
  rw [emitBurst, padBurst_eq]
  rfl

/-- A fire as a whole state (R530 to R532). -/
theorem onFire_eq (m : Match) :
    onFire m s = { s with
      mb := bufRotate s.mb (rotDibit (inverseLock m.lock))
      cnt := 0
      fsm := .synchronized
      trk0 := if s.cur = .primary then ⟨m.id, BitVec.ofNat 8 m.errors⟩ else s.trk0
      trk1 := if s.cur = .secondary then ⟨m.id, BitVec.ofNat 8 m.errors⟩ else s.trk1
      lastSlot := slotFor s.cfg m.id (burstValue (repairBuffer m.lock s).mb) s.lastSlot
      ms := paddedClock s
      out := s.out ++ fireCommands s.cfg m.lock ++ padding s ++
        [.burst (emittedBurst (repairBuffer m.lock s) m.id (BitVec.ofNat 8 m.errors) m.lock)] } := by
  rw [onFire, commandPll_eq, trackerSet, setCurrent_eq, emitBurst_eq]
  rfl

/-! ### The trackers and the boundary -/

theorem trackerStep_of_match {cfg : Config} {f : SyncWord} {m : Match} (t : Tracker)
    (found : syncCompare cfg.tableOrder f cfg.syncThreshold = some m) :
    trackerStep cfg f t = (⟨m.id, BitVec.ofNat 8 m.errors⟩, .synchronized) := by
  simp [trackerStep, found]

theorem trackerStep_of_next {cfg : Config} {f : SyncWord} {t : Tracker} {p : PatternId}
    (missed : syncCompare cfg.tableOrder f cfg.syncThreshold = none) (next : nextVoice t.pat = some p) :
    trackerStep cfg f t = (⟨p, 0⟩, .synchronized) := by
  simp [trackerStep, missed, next]

theorem trackerStep_of_lost {cfg : Config} {f : SyncWord} {t : Tracker}
    (missed : syncCompare cfg.tableOrder f cfg.syncThreshold = none) (ends : nextVoice t.pat = none) :
    trackerStep cfg f t = (Tracker.lost, .lostSync) := by
  simp [trackerStep, missed, ends]

variable {s} in
theorem boundary_of_synchronized {t : Tracker}
    (stays : trackerStep s.cfg (syncFieldValue s.mb) s.current = (t, .synchronized)) :
    boundary s = (emitBurst t.pat t.err .normal (s.setCurrent t)).toggleCurrent := by
  simp [boundary, boundaryOutcome, stays]

variable {s} in
theorem boundary_of_other {t : Tracker}
    (loses : trackerStep s.cfg (syncFieldValue s.mb) s.current = (t, .lostSync))
    (other : s.otherTracker.isSynchronized = true) :
    boundary s = (emitBurst .unknown 0 .normal (s.setCurrent t)).toggleCurrent := by
  simp [boundary, boundaryOutcome, loses, other]

variable {s} in
theorem boundary_of_lost {t : Tracker}
    (loses : trackerStep s.cfg (syncFieldValue s.mb) s.current = (t, .lostSync))
    (other : s.otherTracker.isSynchronized = false) :
    boundary s = (returnToSearching (s.setCurrent t)).toggleCurrent := by
  simp [boundary, boundaryOutcome, loses, other]

@[simp] theorem boundary_cur : (boundary s).cur = s.cur.other := by
  obtain ⟨t, -, h⟩ | ⟨t, -, -, h⟩ | ⟨t, -, -, h⟩ := boundary_cases s <;> simp [h]

@[simp] theorem onFire_cur (m : Match) : (onFire m s).cur = s.cur := by simp [onFire]

end Operations

/-! ### The rows of the FSM table -/

/-- The state in which the matcher answers: the dibit received, and the delayed one fed (R500, R510). -/
def fedState (d : Dibit) (s : State) : State := matchFeed (bufOldest s.db) (receiveDibit d s)

section Rows

variable {s : State} {d : Dibit}

/-- What the matcher answers in a searching step: the comparison of the register with the delayed dibit shifted in
(R410). -/
theorem matchReport_fedState :
    matchReport (fedState d s) =
      searchCompare s.cfg.tableOrder (shiftRegister s.reg (bufOldest s.db)) s.cfg.searchThreshold := rfl

theorem dibitStep_of_searching (searching : s.fsm = .searching) :
    dibitStep d s = searchStep (bufOldest s.db) (receiveDibit d s) := by
  simp [dibitStep, searching]

theorem dibitStep_of_inside (synchronized : s.fsm = .synchronized) (inside : (s.cnt + 1).toNat < 144) :
    dibitStep d s = receiveDibit d s := by
  simp only [dibitStep, synchronized, synchronizedStep, receiveDibit_cnt, burstDibits]
  exact if_neg inside.not_ge

theorem dibitStep_of_boundary (synchronized : s.fsm = .synchronized) (full : 144 ≤ (s.cnt + 1).toNat) :
    dibitStep d s = boundary (receiveDibit d s) := by
  simp only [dibitStep, synchronized, synchronizedStep, receiveDibit_cnt, burstDibits]
  exact if_pos full

theorem dibitStep_of_fire {m : Match} (searching : s.fsm = .searching)
    (fires : searchCompare s.cfg.tableOrder (shiftRegister s.reg (bufOldest s.db)) s.cfg.searchThreshold = some m) :
    dibitStep d s = onFire m (fedState d s) := by
  rw [← matchReport_fedState (d := d), fedState] at fires
  simp [dibitStep_of_searching searching, searchStep, fires, fedState]

theorem dibitStep_of_noMatch (searching : s.fsm = .searching)
    (silent : searchCompare s.cfg.tableOrder (shiftRegister s.reg (bufOldest s.db)) s.cfg.searchThreshold = none) :
    dibitStep d s = lossCheck (fedState d s) := by
  rw [← matchReport_fedState (d := d), fedState] at silent
  simp [dibitStep_of_searching searching, searchStep, silent, fedState]

theorem fedState_cnt : (fedState d s).cnt = s.cnt + 1 := rfl

/-- The counter counts one dibit, below the end of its width (R500). -/
theorem toNat_cnt_succ (small : s.cnt.toNat < 4945) : (s.cnt + 1).toNat = s.cnt.toNat + 1 := by
  rw [BitVec.toNat_add]
  exact Nat.mod_eq_of_lt (by simp; omega)

end Rows

/-- Settles O17: inside a slot a step only receives. -/
theorem dibitInsideASynchronizedSlot : Obligations.DibitInsideASynchronizedSlot := by
  unfold Obligations.DibitInsideASynchronizedSlot
  intro d s synchronized inside
  rw [exec_dibit, dibitStep_of_inside synchronized (by rw [toNat_cnt_succ (by omega)]; exact inside)]
  rfl

/-- Settles O18: without a match and below the threshold, a step receives and feeds the matcher. -/
theorem dibitSearchingWithoutMatch : Obligations.DibitSearchingWithoutMatch := by
  unfold Obligations.DibitSearchingWithoutMatch
  intro d s searching below silent
  rw [exec_dibit, dibitStep_of_noMatch searching silent,
    lossCheck_of_within (by rw [fedState_cnt, toNat_cnt_succ (by omega)]; exact below)]
  rfl

/-- Settles O19: one dibit above the threshold, `lossCheck` reports 9600 bits and takes 4800 dibits off. -/
theorem syncLossThreshold : Obligations.SyncLossThreshold := by
  unfold Obligations.SyncLossThreshold
  intro d s searching atThreshold silent
  have counted : s.cnt + 1 = 4945 := by
    apply BitVec.eq_of_toNat_eq
    rw [toNat_cnt_succ (by omega), atThreshold]
    rfl
  rw [exec_dibit, dibitStep_of_noMatch searching silent, lossCheck_of_above, fedState_cnt, counted]
  · rfl
  · rw [fedState_cnt, counted]
    decide

/-- Settles O20: the fire's whole state, with the counted dibits and the offsets written out. -/
theorem matcherFire : Obligations.MatcherFire := by
  unfold Obligations.MatcherFire
  intro d s m searching below fires received tracker buffer bits slot lost time command padding'
  have counted : (fedState d s).cnt.toNat = received := toNat_cnt_succ (by omega)
  have commands : fireCommands (fedState d s).cfg m.lock = command := by
    simp only [fireCommands, command]
    cases m.lock <;> rfl
  have pads : padding (fedState d s) = padding' := by
    rw [padding, counted]
    rfl
  have clock : paddedClock (fedState d s) = time := by
    rw [paddedClock, counted]
    rfl
  have emits : emittedBurst (repairBuffer m.lock (fedState d s)) m.id (BitVec.ofNat 8 m.errors) m.lock =
      ⟨bits, m.id, m.lock, BitVec.ofNat 8 m.errors, slot, time⟩ := by
    rw [← clock]
    rfl
  rw [exec_dibit, dibitStep_of_fire searching fires, onFire_eq, commands, pads, clock, emits]
  rfl

/-- The counter at the boundary (R520). -/
theorem cnt_succ_eq_boundary {s : State} (last : s.cnt.toNat + 1 = 144) : s.cnt + 1 = 144 := by
  apply BitVec.eq_of_toNat_eq
  rw [toNat_cnt_succ (by omega), last]
  rfl

/-- The last dibit of a slot brings the boundary (R520). -/
theorem dibitStep_of_last {s : State} (d : Dibit) (synchronized : s.fsm = .synchronized)
    (last : s.cnt.toNat + 1 = 144) :
    dibitStep d s = boundary (receiveDibit d s) :=
  dibitStep_of_boundary synchronized (by rw [toNat_cnt_succ (by omega), last])

/-- A burst at the boundary, whole: nothing is padded, and the toggle follows (R521, R524, R541). -/
theorem toggleCurrent_emitBurst_setCurrent {s : State} (t : Tracker) (id : PatternId) (errors : BitVec 8)
    (full : s.cnt = 144) :
    (emitBurst id errors .normal (s.setCurrent t)).toggleCurrent = { s with
      cnt := 0
      trk0 := if s.cur = .primary then t else s.trk0
      trk1 := if s.cur = .secondary then t else s.trk1
      cur := s.cur.other
      lastSlot := slotFor s.cfg id (burstValue s.mb) s.lastSlot
      out := s.out ++ [.burst ⟨burstValue s.mb, id, .normal, errors,
        slotFor s.cfg id (burstValue s.mb) s.lastSlot, s.ms⟩] } := by
  have unpadded : ¬ 144 < s.cnt.toNat := by rw [full]; decide
  rw [emitBurst_eq, setCurrent_eq]
  simp [padding, paddedClock, emittedBurst, unpadded, State.toggleCurrent]

/-- Settles O21: the tracker's step is synchronized either way, and its burst is not padded. -/
theorem boundaryEmitsTheTrackersBurst : Obligations.BoundaryEmitsTheTrackersBurst := by
  unfold Obligations.BoundaryEmitsTheTrackersBurst
  intro d s t synchronized last buffer found stays bits slot
  have full : (receiveDibit d s).cnt = 144 := cnt_succ_eq_boundary last
  have step : trackerStep s.cfg (syncFieldValue buffer) s.current = (t, .synchronized) := by
    obtain ⟨m, hm, rfl⟩ | ⟨missed, next, err⟩ := stays
    · exact trackerStep_of_match _ hm
    · rw [trackerStep_of_next missed next, ← err]
  rw [exec_dibit, dibitStep_of_last d synchronized last,
    boundary_of_synchronized (s := receiveDibit d s) step, toggleCurrent_emitBurst_setCurrent t _ _ full]
  rfl

/-- Settles O22: no CACH and no direct slot stands behind a placeholder, so its slot is the toggled last one. -/
theorem boundaryPlaceholder : Obligations.BoundaryPlaceholder := by
  unfold Obligations.BoundaryPlaceholder
  intro d s synchronized last buffer missed ends other bits slot
  have full : (receiveDibit d s).cnt = 144 := cnt_succ_eq_boundary last
  rw [exec_dibit, dibitStep_of_last d synchronized last,
    boundary_of_other (s := receiveDibit d s) (trackerStep_of_lost missed ends) (decide_eq_true other),
    toggleCurrent_emitBurst_setCurrent _ _ _ full]
  rfl

/-- Settles O23: with the other tracker lost too, the framer returns to searching and then toggles. -/
theorem boundaryReturnsToSearching : Obligations.BoundaryReturnsToSearching := by
  unfold Obligations.BoundaryReturnsToSearching
  intro d s synchronized last buffer missed ends other
  rw [exec_dibit, dibitStep_of_last d synchronized last,
    boundary_of_lost (s := receiveDibit d s) (trackerStep_of_lost missed ends) (decide_eq_false (not_not.mpr other)),
    setCurrent_eq, ← cnt_succ_eq_boundary last]
  rfl

/-- Settles O44: a boundary ends with the toggle, and no other operation of a step writes `cur`. -/
theorem onlyABoundaryTogglesTheTracker : Obligations.OnlyABoundaryTogglesTheTracker := by
  unfold Obligations.OnlyABoundaryTogglesTheTracker
  rintro d s _ ⟨rfl⟩
  obtain ⟨-, inside, h⟩ | ⟨synchronized, full, h⟩ | ⟨m, searching, -, h⟩ | ⟨searching, -, h⟩ := dibitStep_cases s d
  · rw [h, if_neg fun atBoundary => inside.not_ge atBoundary.2, receiveDibit_cur]
  · rw [h, if_pos ⟨synchronized, full⟩, boundary_cur, receiveDibit_cur]
  · rw [h, if_neg (by simp [searching]), lossCheck_cur, onFire_cur, matchFeed_cur, receiveDibit_cur]
  · rw [h, if_neg (by simp [searching]), lossCheck_cur, matchFeed_cur, receiveDibit_cur]

end Sys2Proof.Machine

/-! SUPPORT. Statements of 60_exceptions.md, 10_state.md section 8 and 20_memory.md section 3: what a step does at the
port (R702), what it keeps (R10, R110, R230), RESET (R802), and a byte's word against its dibits' words (R223). -/

namespace Sys2Proof.Machine

/-! ### Executing and refusing -/

/-- Settles O6: a legal instance without the mark runs the transaction. -/
theorem stepRunsTheDecodedTransaction : Obligations.StepRunsTheDecodedTransaction := by
  unfold Obligations.StepRunsTheDecodedTransaction
  exact fun _ _ _ _ legal unmarked waits decodes => step_of_txn legal unmarked waits decodes

/-- Of everything a step can do, a word that does not decode leaves its refusal by name (R702). -/
theorem step_of_error {s : State} {w : TxnWord} {rest : List TxnWord} {e : DecodeError}
    (legal : s.cfg.wellFormed = true) (unmarked : s.refused = false) (waits : s.input = w :: rest)
    (error : decode w = .error e) :
    step s = .next (refuseTransaction (decodeRefusal e) { s with input := rest }) := by
  simp [step, takeNext, checkWord, legal, unmarked, waits, error]

/-- A marked instance refuses the next word (R702, R110). -/
theorem step_of_marked {s : State} {w : TxnWord} {rest : List TxnWord} (legal : s.cfg.wellFormed = true)
    (marked : s.refused = true) (waits : s.input = w :: rest) :
    step s = .next { s with input := rest, reply := some .sticky } := by
  simp [step, takeNext, checkWord, refuseTransaction, legal, marked, waits]

/-- With nothing at the port nothing happens (log entry 4). -/
theorem step_of_empty {s : State} (legal : s.cfg.wellFormed = true) (empty : s.input = []) : step s = .next s := by
  simp [step, takeNext, legal, empty]

/-- Settles O7: the two decode errors have the refusals of their names. -/
theorem refusedWordOnlySetsTheMark : Obligations.RefusedWordOnlySetsTheMark := by
  unfold Obligations.RefusedWordOnlySetsTheMark
  exact fun _ _ _ legal unmarked waits =>
    ⟨step_of_error legal unmarked waits, step_of_error legal unmarked waits⟩

/-- Every transaction completes (R716). -/
theorem exec_completes (i : Instr) (s : State) : ∃ t, exec i s = .next t := by
  cases i <;> exact ⟨_, rfl⟩

/-- Settles O9: of everything a step can do, only an illegal configuration has no next state. -/
theorem everyInstanceStateSteps : Obligations.EveryInstanceStateSteps := by
  unfold Obligations.EveryInstanceStateSteps
  refine fun s legal => ⟨?_, step_of_empty legal⟩
  obtain ⟨illegal, -⟩ | ⟨-, -, h⟩ | ⟨_, _, -, -, -, h⟩ | ⟨_, _, _, -, -, -, -, h⟩ | ⟨_, _, i, -, -, -, -, h⟩ :=
    step_cases s
  · simp [legal] at illegal
  · exact ⟨_, h⟩
  · exact ⟨_, h⟩
  · exact ⟨_, h⟩
  · exact h ▸ exec_completes i _

/-! ### Runs -/

theorem run_succ_of_next {s t : State} (n : Nat) (h : step s = .next t) : core.run (n + 1) s = core.run n t := by
  have taken : core.step s = .next t := h
  simp only [Host.Core.run, taken]

/-- A marked instance takes one word from the port at each step and changes nothing else (R702, log entry 6). -/
theorem run_of_marked (n : Nat) {s : State} (legal : s.cfg.wellFormed = true) (marked : s.refused = true) :
    core.run n s = .next { s with
      input := s.input.drop n
      reply := if 0 < n ∧ s.input ≠ [] then some .sticky else s.reply } := by
  induction n generalizing s with
  | zero => rfl
  | succ n ih =>
    cases waits : s.input with
    | nil =>
      rw [run_succ_of_next n (step_of_empty legal waits), ih legal marked]
      simp [waits]
    | cons w rest =>
      have later := ih (s := { s with input := rest, reply := some .sticky }) legal marked
      refine (run_succ_of_next n (step_of_marked legal marked waits)).trans (later.trans ?_)
      simp

/-- Settles O8: the reply is STICKY as soon as one word has been taken. -/
theorem refusalIsSticky : Obligations.RefusalIsSticky := by
  unfold Obligations.RefusalIsSticky
  exact fun n s legal marked =>
    ⟨_, run_of_marked n legal marked, fun positive waiting => if_pos ⟨positive, waiting⟩⟩

/-! ### What every step keeps -/

section Keeps

variable (s : State)

@[simp] theorem boundary_refused : (boundary s).refused = s.refused := by
  obtain ⟨t, -, h⟩ | ⟨t, -, -, h⟩ | ⟨t, -, -, h⟩ := boundary_cases s <;> simp [h]

@[simp] theorem onFire_refused (m : Match) : (onFire m s).refused = s.refused := by simp [onFire]

/-- A DIBIT step keeps the refusal mark (R702). -/
@[simp] theorem dibitStep_refused (d : Dibit) : (dibitStep d s).refused = s.refused := by
  obtain ⟨-, -, h⟩ | ⟨-, -, h⟩ | ⟨m, -, -, h⟩ | ⟨-, -, h⟩ := dibitStep_cases s d <;> simp [h]

@[simp] theorem dibitSteps_cfg (ds : List Dibit) : (dibitSteps ds s).cfg = s.cfg := by
  induction ds generalizing s with
  | nil => rfl
  | cons d ds ih => rw [dibitSteps_cons, ih, dibitStep_cfg]

@[simp] theorem dibitSteps_refused (ds : List Dibit) : (dibitSteps ds s).refused = s.refused := by
  induction ds generalizing s with
  | nil => rfl
  | cons d ds ih => rw [dibitSteps_cons, ih, dibitStep_refused]

end Keeps

/-- A transaction keeps the configuration and the mark, and takes back no event (R10, R110, R230). -/
theorem exec_keeps {i : Instr} {s t : State} (h : exec i s = .next t) :
    t.cfg = s.cfg ∧ t.refused = s.refused ∧ s.out <+: t.out := by
  cases i with
  | dibit d =>
    obtain ⟨rfl⟩ := h
    exact ⟨dibitStep_cfg s d, dibitStep_refused s d, dibitStep_out_grows s d⟩
  | byte b =>
    obtain ⟨rfl⟩ := h
    exact ⟨dibitSteps_cfg s _, dibitSteps_refused s _, dibitSteps_out_grows s _⟩
  | timeHint v =>
    obtain ⟨rfl⟩ := h
    exact ⟨rfl, rfl, List.prefix_rfl⟩
  | reset =>
    obtain ⟨rfl⟩ := h
    exact ⟨rfl, rfl, List.prefix_rfl⟩

/-- What a step leaves, if it leaves anything: the same state, a refusal's, or a transaction's (R702, R11). -/
theorem step_next_cases {s t : State} (h : step s = .next t) :
    t = s ∨ (∃ rest code, t = { s with refused := true, input := rest, reply := some code }) ∨
      ∃ rest i, exec i { s with input := rest, reply := none } = .next t := by
  obtain ⟨-, r⟩ | ⟨-, -, r⟩ | ⟨_, rest, -, -, -, r⟩ | ⟨_, rest, _, -, -, -, -, r⟩ | ⟨_, rest, i, -, -, -, -, r⟩ :=
    step_cases s <;> rw [r] at h
  · simp at h
  · obtain ⟨rfl⟩ := h
    exact .inl rfl
  · obtain ⟨rfl⟩ := h
    exact .inr (.inl ⟨rest, _, rfl⟩)
  · obtain ⟨rfl⟩ := h
    exact .inr (.inl ⟨rest, _, rfl⟩)
  · exact .inr (.inr ⟨rest, i, h⟩)

/-- Settles O12: of everything a step can do, a refusal sets the mark and only a transaction emits. -/
theorem stepKeepsConfigurationMarkAndEvents : Obligations.StepKeepsConfigurationMarkAndEvents := by
  unfold Obligations.StepKeepsConfigurationMarkAndEvents
  intro s t h
  obtain rfl | ⟨rest, code, rfl⟩ | ⟨rest, i, run⟩ := step_next_cases h
  · exact ⟨rfl, id, [], (List.append_nil _).symm⟩
  · exact ⟨rfl, fun _ => rfl, [], (List.append_nil _).symm⟩
  · obtain ⟨cfg, refused, es, out⟩ := exec_keeps run
    exact ⟨cfg, fun marked => refused.trans marked, es, out.symm⟩

/-- Settles O14: RESET writes the power-on value of every element but the clock and the mark. -/
theorem resetGivesPowerOnButForTheClock : Obligations.ResetGivesPowerOnButForTheClock := by
  unfold Obligations.ResetGivesPowerOnButForTheClock
  exact ⟨fun _ => ⟨rfl, rfl, rfl, rfl, rfl, rfl, rfl, rfl, rfl, rfl, rfl, rfl⟩, fun _ => rfl⟩

/-! ### A DIBIT step does not look at the port -/

/-- The state with other words waiting and another reply. -/
def State.atPort (ws : List TxnWord) (r : Option RefusalCode) (s : State) : State := { s with input := ws, reply := r }

section Port

variable (ws : List TxnWord) (r : Option RefusalCode) (s : State)

theorem setCurrent_atPort (t : Tracker) : (s.atPort ws r).setCurrent t = (s.setCurrent t).atPort ws r := by
  rw [setCurrent_eq, setCurrent_eq]
  rfl

theorem emitBurst_atPort (id : PatternId) (errors : BitVec 8) (lock : CarrierLock) :
    emitBurst id errors lock (s.atPort ws r) = (emitBurst id errors lock s).atPort ws r := by
  rw [emitBurst_eq, emitBurst_eq]
  rfl

theorem lossCheck_atPort : lossCheck (s.atPort ws r) = (lossCheck s).atPort ws r := by
  obtain ⟨above, h⟩ | ⟨below, h⟩ := lossCheck_cases s
  · rw [h, lossCheck_of_above (s := s.atPort ws r) above]
    rfl
  · rw [h, lossCheck_of_within (s := s.atPort ws r) below]

theorem onFire_atPort (m : Match) : onFire m (s.atPort ws r) = (onFire m s).atPort ws r := by
  rw [onFire_eq, onFire_eq]
  rfl

theorem boundary_atPort : boundary (s.atPort ws r) = (boundary s).atPort ws r := by
  obtain ⟨t, stays, h⟩ | ⟨t, loses, other, h⟩ | ⟨t, loses, other, h⟩ := boundary_cases s
  · rw [h, boundary_of_synchronized (s := s.atPort ws r) stays, setCurrent_atPort, emitBurst_atPort]
    rfl
  · rw [h, boundary_of_other (s := s.atPort ws r) loses other, setCurrent_atPort, emitBurst_atPort]
    rfl
  · rw [h, boundary_of_lost (s := s.atPort ws r) loses other, setCurrent_atPort]
    rfl

/-- What stands at the port does not change what a dibit does, nor the dibit what stands there. -/
theorem dibitStep_atPort (d : Dibit) : dibitStep d (s.atPort ws r) = (dibitStep d s).atPort ws r := by
  obtain ⟨sync, inside, h⟩ | ⟨sync, full, h⟩ | ⟨m, searching, fires, h⟩ | ⟨searching, silent, h⟩ :=
    dibitStep_cases s d
  · rw [h, dibitStep_of_inside (s := s.atPort ws r) sync inside]
    rfl
  · rw [h, dibitStep_of_boundary (s := s.atPort ws r) sync full, ← boundary_atPort]
    rfl
  · rw [h, lossCheck_onFire, dibitStep_of_fire (s := s.atPort ws r) searching fires, ← onFire_atPort]
    rfl
  · rw [h, dibitStep_of_noMatch (s := s.atPort ws r) searching silent, ← lossCheck_atPort]
    rfl

theorem dibitSteps_atPort (ds : List Dibit) :
    dibitSteps ds (s.atPort ws r) = (dibitSteps ds s).atPort ws r := by
  induction ds generalizing s with
  | nil => rfl
  | cons d ds ih => rw [dibitSteps_cons, dibitStep_atPort, ih, dibitSteps_cons]

end Port

/-! ### A byte's word and its dibits' words -/

/-- The word of a dibit at the port runs its DIBIT step (R702). -/
theorem step_atPort_dibit {s : State} (legal : s.cfg.wellFormed = true) (unmarked : s.refused = false) (d : Dibit)
    (ws : List TxnWord) (r : Option RefusalCode) :
    step (s.atPort (encode (.dibit d) :: ws) r) = .next ((dibitStep d s).atPort ws none) := by
  rw [← dibitStep_atPort]
  exact step_of_txn (s := s.atPort (encode (.dibit d) :: ws) r) legal unmarked rfl (decode_encode_dibit d)

/-- The words of a stream of dibits at the port run its DIBIT steps (R702). -/
theorem run_atPort_dibits {s : State} (legal : s.cfg.wellFormed = true) (unmarked : s.refused = false)
    (ds : List Dibit) (rest : List TxnWord) (r : Option RefusalCode) :
    core.run ds.length (s.atPort ((ds.map fun d => encode (.dibit d)) ++ rest) r) =
      .next ((dibitSteps ds s).atPort rest (if ds = [] then r else none)) := by
  induction ds generalizing s r with
  | nil => rfl
  | cons d ds ih =>
    have first := step_atPort_dibit legal unmarked d ((ds.map fun d => encode (.dibit d)) ++ rest) r
    have later := ih (s := dibitStep d s) (by rwa [dibitStep_cfg]) (by rwa [dibitStep_refused]) none
    refine (run_succ_of_next ds.length first).trans (later.trans ?_)
    rw [ite_self, if_neg (List.cons_ne_nil d ds), dibitSteps_cons]

/-- A marked instance refuses any words at the port with STICKY (R702). -/
theorem run_atPort_of_marked {s : State} (legal : s.cfg.wellFormed = true) (marked : s.refused = true)
    {ws : List TxnWord} (nonempty : ws ≠ []) (rest : List TxnWord) (r : Option RefusalCode) :
    core.run ws.length (s.atPort (ws ++ rest) r) = .next (s.atPort rest (some .sticky)) := by
  refine (run_of_marked ws.length (s := s.atPort (ws ++ rest) r) legal marked).trans ?_
  have waiting : 0 < ws.length ∧ ws ++ rest ≠ [] := ⟨List.length_pos_iff.mpr nonempty, by simp [nonempty]⟩
  simp [State.atPort, waiting]

theorem run_succ_of_refused {s : State} {r : Refusal} (n : Nat) (h : step s = .refused r) :
    core.run (n + 1) s = .refused r := by
  have taken : core.step s = .refused r := h
  simp only [Host.Core.run, taken]

/-- Settles O16: an illegal instance refuses both, a marked one answers both with STICKY, and any other runs the byte's
dibits. -/
theorem byteTransactionEqualsFourDibitTransactions : Obligations.ByteTransactionEqualsFourDibitTransactions := by
  unfold Obligations.ByteTransactionEqualsFourDibitTransactions
  intro b rest s
  change core.run 1 (s.atPort (encode (.byte b) :: rest) s.reply) =
    core.run 4 (s.atPort (((byteDibits b).map fun d => encode (.dibit d)) ++ rest) s.reply)
  cases legal : s.cfg.wellFormed with
  | false =>
    have illegal (ws : List TxnWord) : step (s.atPort ws s.reply) = .refused .illegalConfiguration :=
      step_of_illegal legal
    exact (run_succ_of_refused 0 (illegal _)).trans (run_succ_of_refused 3 (illegal _)).symm
  | true =>
    cases marked : s.refused with
    | true =>
      have one := run_atPort_of_marked legal marked (ws := [encode (.byte b)]) (by simp) rest s.reply
      have four := run_atPort_of_marked legal marked (ws := (byteDibits b).map fun d => encode (.dibit d))
        (by simp [byteDibits]) rest s.reply
      exact one.trans four.symm
    | false =>
      have byte : step (s.atPort (encode (.byte b) :: rest) s.reply) =
          .next ((dibitSteps (byteDibits b) s).atPort rest none) := by
        rw [← dibitSteps_atPort]
        exact step_of_txn (s := s.atPort (encode (.byte b) :: rest) s.reply) legal marked rfl (decode_encode_byte b)
      exact (run_succ_of_next 0 byte).trans (run_atPort_dibits legal marked (byteDibits b) rest s.reply).symm

end Sys2Proof.Machine

/-! SUPPORT. Statements of 41_sync_tracker.md, 43_timebase.md section 2 and 44_message_framer.md section 2: the voice chain
(R452 to R454), rounding (R602), and the slot of a burst (R660 to R662). -/

namespace Sys2Proof.Machine

/-- Settles O47: rounding is a floor division after half a divisor is added. -/
theorem roundIsNearestHalvesUp : Obligations.RoundIsNearestHalvesUp := by
  unfold Obligations.RoundIsNearestHalvesUp
  intro bits
  have round : roundMillis bits = (bits * 1000 + 4800) / 9600 := rfl
  omega

/-! ### The voice chain -/

/-- The pattern a tracker holds after a field without a match: the next in the voice chain, or none (R452, R453). -/
def afterMiss (p : PatternId) : PatternId := (nextVoice p).getD .unknown

/-- A field without a match moves the tracker along the voice chain, or out of sync at its end (R452, R453). -/
theorem trackerStep_of_miss {cfg : Config} {f : SyncWord} (t : Tracker)
    (missed : syncCompare cfg.tableOrder f cfg.syncThreshold = none) :
    trackerStep cfg f t =
      (⟨afterMiss t.pat, 0⟩, if (nextVoice t.pat).isSome then .synchronized else .lostSync) := by
  cases next : nextVoice t.pat with
  | none => simp [trackerStep_of_lost missed next, afterMiss, next, Tracker.lost]
  | some p => simp [trackerStep_of_next missed next, afterMiss, next]

/-- A tracker after its steps on the first `n` fields of a sequence. -/
def trackerAfter (cfg : Config) (f : Nat → SyncWord) (n : Nat) (start : Tracker) : Tracker :=
  (List.range n).foldl (fun t k => (trackerStep cfg (f k) t).1) start

theorem trackerAfter_succ (cfg : Config) (f : Nat → SyncWord) (n : Nat) (start : Tracker) :
    trackerAfter cfg f (n + 1) start = (trackerStep cfg (f n) (trackerAfter cfg f n start)).1 := by
  simp [trackerAfter, List.range_succ]

section Misses

variable {cfg : Config} {f : Nat → SyncWord}
  (missed : ∀ k < 6, syncCompare cfg.tableOrder (f k) cfg.syncThreshold = none)

include missed

/-- Over fields without a match a tracker walks along the voice chain (R452). -/
theorem trackerAfter_pat (start : Tracker) {n : Nat} (hn : n ≤ 6) :
    (trackerAfter cfg f n start).pat = afterMiss^[n] start.pat := by
  induction n with
  | zero => rfl
  | succ n ih =>
    rw [trackerAfter_succ, trackerStep_of_miss _ (missed n (by omega)), ih (by omega), Function.iterate_succ_apply']

/-- After at least one field without a match no errors are counted (R452, R456). -/
theorem trackerAfter_succ_eq (start : Tracker) {n : Nat} (hn : n < 6) :
    trackerAfter cfg f (n + 1) start = ⟨afterMiss^[n + 1] start.pat, 0⟩ := by
  rw [trackerAfter_succ, trackerStep_of_miss _ (missed n hn), trackerAfter_pat missed start (by omega),
    Function.iterate_succ_apply']

theorem trackerStep_trackerAfter (start : Tracker) {n : Nat} (hn : n < 6) :
    (trackerStep cfg (f n) (trackerAfter cfg f n start)).2 =
      if (nextVoice (afterMiss^[n] start.pat)).isSome then .synchronized else .lostSync := by
  rw [trackerStep_of_miss _ (missed n hn), trackerAfter_pat missed start (by omega)]

end Misses

/-- The two voice chains, frame by frame, and their end after frame F (R454). -/
theorem afterMiss_chain : ∀ k < 6,
    some (afterMiss^[k + 1] .bsVoice) =
      [PatternId.voiceBBs, .voiceCBs, .voiceDBs, .voiceEBs, .voiceFBs, .unknown][k]? ∧
    (∀ p ∈ [PatternId.msVoice, .directV0, .directV1], some (afterMiss^[k + 1] p) =
      [PatternId.voiceBMs, .voiceCMs, .voiceDMs, .voiceEMs, .voiceFMs, .unknown][k]?) ∧
    ∀ p ∈ [PatternId.bsVoice, .msVoice, .directV0, .directV1],
      (nextVoice (afterMiss^[k] p)).isSome = decide (k < 5) := by decide

/-- `NEXT` is the table of rule R454. -/
theorem nextVoice_eq_lookup (p : PatternId) : nextVoice p = List.lookup p
    [(.bsVoice, .voiceBBs), (.voiceBBs, .voiceCBs), (.voiceCBs, .voiceDBs), (.voiceDBs, .voiceEBs),
      (.voiceEBs, .voiceFBs), (.msVoice, .voiceBMs), (.directV0, .voiceBMs), (.directV1, .voiceBMs),
      (.voiceBMs, .voiceCMs), (.voiceCMs, .voiceDMs), (.voiceDMs, .voiceEMs), (.voiceEMs, .voiceFMs)] := by
  cases p <;> decide

/-- Settles O43: a tracker over fields without a match is its place in the voice chain. -/
theorem voiceSuperframeIsPredicted : Obligations.VoiceSuperframeIsPredicted := by
  unfold Obligations.VoiceSuperframeIsPredicted
  intro cfg f e missed after bs ms k hk
  obtain ⟨chainBs, chainMs, ends⟩ := afterMiss_chain k hk
  have reached (p : PatternId) (l : List PatternId) (chain : some (afterMiss^[k + 1] p) = l[k]?) :
      some (after (k + 1) ⟨p, e⟩) = l[k]?.map (⟨·, 0⟩) := by
    rw [← chain]
    exact congrArg some (trackerAfter_succ_eq missed ⟨p, e⟩ hk)
  refine ⟨reached _ _ chainBs, fun p hp => reached p _ (chainMs p hp), fun p hp => ?_, nextVoice_eq_lookup,
    fun p hp => ?_⟩
  · have result := trackerStep_trackerAfter missed ⟨p, e⟩ hk
    rw [ends p hp] at result
    simp only [decide_eq_true_eq] at result
    exact result
  · have ends : nextVoice p = none := by
      revert p
      decide
    exact ⟨ends, trackerStep_of_lost (missed k hk) ends⟩

/-! ### The slot of a burst -/

theorem slotFor_of_cach {cfg : Config} {id : PatternId} {bits : BurstBits} (last : Slot) {k : Slot}
    (carries : (rom id).hasCach = true) (decodes : cachDecode cfg (cachWord bits) = some k) :
    slotFor cfg id bits last = k := by
  simp [slotFor, cachSlot, carries, decodes]

theorem cachSlot_eq_none {cfg : Config} {id : PatternId} {bits : BurstBits}
    (h : (rom id).hasCach = false ∨ cachDecode cfg (cachWord bits) = none) : cachSlot cfg id bits = none := by
  obtain lacks | undecoded := h
  · simp [cachSlot, lacks]
  · simp [cachSlot, undecoded]

theorem slotFor_of_direct {cfg : Config} {id : PatternId} {bits : BurstBits} (last : Slot) {k : Slot}
    (noCach : cachSlot cfg id bits = none) (direct : directSlot id = some k) : slotFor cfg id bits last = k := by
  simp [slotFor, noCach, direct]

theorem slotFor_of_neither {cfg : Config} {id : PatternId} {bits : BurstBits} (last : Slot)
    (noCach : cachSlot cfg id bits = none) (indirect : directSlot id = none) :
    slotFor cfg id bits last = last.toggle := by
  simp [slotFor, noCach, indirect]

section Slots

variable (s : State)

/-- `EMIT_BURST` labels its one burst and stores the label (R541, R662). -/
theorem emitBurst_slot (id : PatternId) (errors : BitVec 8) (lock : CarrierLock) :
    ∃ b, (emitBurst id errors lock s).out.filter Event.isBurst = s.out.filter Event.isBurst ++ [.burst b] ∧
      (emitBurst id errors lock s).lastSlot = b.slot ∧ b.slot = slotFor s.cfg b.sync b.bits s.lastSlot := by
  refine ⟨emittedBurst s id errors lock, ?_, emitBurst_lastSlot s id errors lock, rfl⟩
  have clock : (padBurst s).ms = paddedClock s := by rw [padBurst_eq]
  rw [emitBurst_out, List.filter_append, padBurst_out_filter_isBurst, clock]
  rfl

/-- A DIBIT step emits no burst and keeps the last-known slot, or emits one and stores its slot (R660, R662). -/
theorem dibitStep_slot (d : Dibit) :
    ((dibitStep d s).out.filter Event.isBurst = s.out.filter Event.isBurst ∧
      (dibitStep d s).lastSlot = s.lastSlot) ∨
    ∃ b, (dibitStep d s).out.filter Event.isBurst = s.out.filter Event.isBurst ++ [.burst b] ∧
      (dibitStep d s).lastSlot = b.slot ∧ b.slot = slotFor s.cfg b.sync b.bits s.lastSlot := by
  obtain ⟨-, -, h⟩ | ⟨-, -, h⟩ | ⟨m, -, -, h⟩ | ⟨-, -, h⟩ := dibitStep_cases s d
  · exact .inl (by simp [h])
  · obtain ⟨t, -, emits⟩ | ⟨t, -, -, emits⟩ | ⟨t, -, -, returns⟩ := boundary_cases (receiveDibit d s)
    · right
      simpa [h, emits] using emitBurst_slot ((receiveDibit d s).setCurrent t) t.pat t.err .normal
    · right
      simpa [h, emits] using emitBurst_slot ((receiveDibit d s).setCurrent t) .unknown 0 .normal
    · exact .inl (by simp [h, returns])
  · right
    simpa [h, onFire, fedState] using emitBurst_slot (repairBuffer m.lock (commandPll m.lock (trackerSet m.id
      (BitVec.ofNat 8 m.errors) (fedState d s)))) m.id (BitVec.ofNat 8 m.errors) m.lock
  · exact .inl (by simp [h])

end Slots

/-- Settles O46: the slot is `slotFor`'s, case by case. -/
theorem burstSlotsAndTheLastSlot : Obligations.BurstSlotsAndTheLastSlot := by
  unfold Obligations.BurstSlotsAndTheLastSlot
  rintro d s _ ⟨rfl⟩
  have bursts := out_filter_isBurst_eq_append (dibitStep_out_grows s d)
  obtain ⟨noBurst, kept⟩ | ⟨b, one, stored, slot⟩ := dibitStep_slot s d
  · rw [noBurst, List.self_eq_append_right] at bursts
    refine ⟨fun _ => kept, fun b emitted => ?_⟩
    have isBurst : Event.burst b ∈ (eventsSince s (dibitStep d s)).filter Event.isBurst :=
      List.mem_filter.mpr ⟨emitted, rfl⟩
    simp [bursts] at isBurst
  · rw [one, List.append_cancel_left_eq] at bursts
    have mem (e : Event) : e = .burst b ↔ e ∈ eventsSince s (dibitStep d s) ∧ e.isBurst = true := by
      rw [← List.mem_filter, ← bursts, List.mem_singleton]
    refine ⟨fun noBurst => ?_, fun b' emitted => ?_⟩
    · obtain ⟨emitted, isBurst⟩ := (mem _).mp rfl
      simp [noBurst _ emitted] at isBurst
    · obtain rfl := Event.burst.inj ((mem _).mpr ⟨emitted, rfl⟩)
      refine ⟨stored, fun k carries decodes => ?_, fun noCach => ⟨fun k direct => ?_, fun indirect => ?_⟩⟩
      · rw [slot, slotFor_of_cach s.lastSlot carries decodes]
      · rw [slot, slotFor_of_direct s.lastSlot (cachSlot_eq_none noCach) direct]
      · rw [slot, slotFor_of_neither s.lastSlot (cachSlot_eq_none noCach) indirect]

end Sys2Proof.Machine

/-! SUPPORT. Statements of 10_state.md section 9: the invariants at power-on and along every step (R118). -/

namespace Sys2Proof.Machine

/-! ### The register and the delay line follow the message buffer -/

/-- The register's shift makes room for a dibit, and the width cuts off what falls out (R410). -/
theorem toNat_shiftRegister (reg : SyncWord) (d : Dibit) :
    (shiftRegister reg d).toNat = (reg.toNat * 4 + d.toNat) % 2 ^ 48 := by
  have small : d.toNat < 2 ^ 2 := d.isLt
  have high : reg.toNat * 4 % 2 ^ 48 = (reg.toNat % 2 ^ 46) <<< 2 := by
    rw [Nat.shiftLeft_eq]
    omega
  have low : (d.zeroExtend 48).toNat = d.toNat := by
    simp only [BitVec.zeroExtend, BitVec.toNat_setWidth]
    omega
  rw [shiftRegister, BitVec.toNat_or, BitVec.toNat_shiftLeft, Nat.shiftLeft_eq, low, high,
    ← Nat.shiftLeft_add_eq_or_of_lt small, Nat.shiftLeft_eq]
  omega

/-- The register's shift appends the dibit to the dibits it holds (R410). -/
theorem shiftRegister_pack (ds : List Dibit) (d : Dibit) : shiftRegister (pack 48 ds) d = pack 48 (ds ++ [d]) := by
  apply BitVec.eq_of_toNat_eq
  rw [toNat_shiftRegister, pack, pack, BitVec.toNat_ofNat, BitVec.toNat_ofNat, packNat_append_singleton]
  omega

/-- A 25th dibit at the old end does not fit a word. -/
theorem pack_cons_of_length (d : Dibit) {ds : List Dibit} (length : ds.length = 24) :
    pack 48 (d :: ds) = pack 48 ds := by
  apply BitVec.eq_of_toNat_eq
  rw [pack, pack, BitVec.toNat_ofNat, BitVec.toNat_ofNat, ← List.singleton_append, packNat_append, length]
  exact Nat.mul_add_mod_self_right _ (2 ^ 48) _

/-- From a place on, a put appends the newest dibit and moves the rest (R201). -/
theorem drop_bufPut {n : Nat} (b : DibitDelayBuffer n) (d : Dibit) {k : Nat} (hk : k < n) :
    (bufPut b d).slots.drop k = b.slots.drop (k + 1) ++ [d] := by
  have fits : k + 1 ≤ b.slots.length := by
    rw [b.size]
    exact hk
  rw [bufPut_slots, ← List.drop_one, List.drop_drop, Nat.add_comm, List.drop_append_of_le_length fits]

/-- A window before the newest dibit moves by one place with a put (R201, R203). -/
theorem bufSlice_bufPut {n : Nat} (b : DibitDelayBuffer n) (d : Dibit) {offset length : Nat}
    (inside : offset + length < n) : bufSlice (bufPut b d) offset length = bufSlice b (offset + 1) length := by
  have fits : length ≤ (b.slots.drop (offset + 1)).length := by
    rw [List.length_drop, b.size]
    omega
  rw [bufSlice, drop_bufPut b d (by omega), List.take_append_of_le_length fits]
  rfl

/-- A window is its first dibit and the window after it, or the window before its last dibit and that dibit. -/
theorem bufSlice_succ {n : Nat} (b : DibitDelayBuffer n) {offset length : Nat} (inside : offset + length < n) :
    bufGet b offset :: bufSlice b (offset + 1) length = bufSlice b offset length ++ [bufGet b (offset + length)] := by
  have whole : bufSlice b offset (length + 1) = bufSlice b offset length ++ [bufGet b (offset + length)] := by
    have last : (b.slots.drop offset)[length]? = some (bufGet b (offset + length)) := by
      rw [List.getElem?_drop, getElem?_slots b inside]
    rw [bufSlice, List.take_add_one, last]
    rfl
  have first : b.slots.drop offset = bufGet b offset :: b.slots.drop (offset + 1) := by
    rw [List.drop_eq_getElem?_toList_append, getElem?_slots b (by omega)]
    rfl
  rw [← whole, bufSlice, bufSlice, first, List.take_succ_cons]

/-- What falls off the delay line while searching is the dibit behind the sync field (R102, R510). -/
theorem State.Inv.bufOldest_db {s : State} (h : s.Inv) (searching : s.fsm = .searching) :
    bufOldest s.db = bufGet s.mb 90 := by
  rw [bufOldest_eq_bufGet, bufGet, h.searchDelay searching, List.getD_eq_getElem?_getD, List.getElem?_drop,
    bufGet, List.getD_eq_getElem?_getD]

/-- While searching, feeding the matcher keeps the register at the sync field (R118 (a)). -/
theorem State.Inv.shiftRegister_eq {s : State} (h : s.Inv) (searching : s.fsm = .searching) (d : Dibit) :
    shiftRegister s.reg (bufOldest s.db) = syncFieldValue (bufPut s.mb d) := by
  have inside : 66 + 24 < 144 := by decide
  calc shiftRegister s.reg (bufOldest s.db)
      = pack 48 (bufSlice s.mb 66 24 ++ [bufGet s.mb 90]) := by
        rw [h.searchRegister searching, h.bufOldest_db searching, syncFieldValue, shiftRegister_pack]
    _ = pack 48 (bufGet s.mb 66 :: bufSlice s.mb 67 24) := by rw [← bufSlice_succ s.mb inside]
    _ = pack 48 (bufSlice s.mb 67 24) := pack_cons_of_length _ (length_bufSlice s.mb (by decide))
    _ = syncFieldValue (bufPut s.mb d) := by rw [syncFieldValue, bufSlice_bufPut s.mb d inside]

/-- While searching, a put keeps the delay line at the newest dibits of the message buffer (R118 (a)). -/
theorem State.Inv.bufPut_db {s : State} (h : s.Inv) (searching : s.fsm = .searching) (d : Dibit) :
    (bufPut s.db d).slots = (bufPut s.mb d).slots.drop 90 := by
  have db := drop_bufPut s.db d (k := 0) (by decide)
  rw [List.drop_zero, h.searchDelay searching, List.drop_drop] at db
  rw [db, drop_bufPut s.mb d (by decide)]

/-- While synchronized, a put keeps the newest dibits of both buffers alike, one more of them (R118 (f), (g)). -/
theorem State.Inv.bufPut_agrees {s : State} (h : s.Inv) (synchronized : s.fsm = .synchronized) (d : Dibit) :
    (bufPut s.db d).slots.drop (54 - min (s.cnt.toNat + 1) 54) =
      (bufPut s.mb d).slots.drop (144 - min (s.cnt.toNat + 1) 54) := by
  have agrees := congrArg (List.drop (s.shared + 1 - min (s.cnt.toNat + 1) 54)) (h.delayAgrees synchronized)
  rw [List.drop_drop, List.drop_drop] at agrees
  have shared : s.shared = min s.cnt.toNat 54 := rfl
  rw [drop_bufPut s.db d (by omega), drop_bufPut s.mb d (by omega)]
  convert congrArg (· ++ [d]) agrees using 3 <;> omega

/-! ### The tracker file -/

/-- A property of both trackers is one of the current and the other tracker (R107). -/
theorem forall_trackers_iff (s : State) (P : Tracker → Prop) :
    P s.trk0 ∧ P s.trk1 ↔ P s.current ∧ P s.otherTracker := by
  cases selected : s.cur <;>
    simp [State.current, State.otherTracker, State.tracker, TrackerSel.other, selected, and_comm]

theorem exists_tracker_iff (s : State) (P : Tracker → Prop) :
    P s.trk0 ∨ P s.trk1 ↔ P s.current ∨ P s.otherTracker := by
  cases selected : s.cur <;>
    simp [State.current, State.otherTracker, State.tracker, TrackerSel.other, selected, or_comm]

/-- After a write to the current tracker both have a property that the new and the other one have (R107, R115). -/
theorem setCurrent_forall {s : State} {t : Tracker} (P : Tracker → Prop) (new : P t) (other : P s.otherTracker) :
    P (s.setCurrent t).trk0 ∧ P (s.setCurrent t).trk1 := by
  rw [forall_trackers_iff, current_setCurrent, otherTracker_setCurrent]
  exact ⟨new, other⟩

theorem setCurrent_exists {s : State} {t : Tracker} (P : Tracker → Prop) (either : P t ∨ P s.otherTracker) :
    P (s.setCurrent t).trk0 ∨ P (s.setCurrent t).trk1 := by
  rw [exists_tracker_iff, current_setCurrent, otherTracker_setCurrent]
  exact either

theorem State.Inv.otherTracker_errorsBounded {s : State} (h : s.Inv) : s.otherTracker.errorsBounded :=
  ((forall_trackers_iff s Tracker.errorsBounded).mp ⟨h.primaryErrors, h.secondaryErrors⟩).2

theorem ne_unknown_of_isReal {id : PatternId} (real : id.isReal = true) : id ≠ .unknown := by
  rintro rfl
  simp [PatternId.isReal] at real

theorem isReal_iff_neither {id : PatternId} :
    id.isReal = true ↔ ¬ (id = .unknown ∨ id.isContinuation = true) := by
  cases id <;> decide

theorem toNat_ofNat_errors {errors : Nat} (small : errors ≤ 24) : (BitVec.ofNat 8 errors).toNat = errors :=
  Nat.mod_eq_of_lt (by omega)

/-- A tracker set by a match of a real pattern within a legal threshold (R118 (h)). -/
theorem errorsBounded_of_match {id : PatternId} {errors : Nat} (real : id.isReal = true) (small : errors ≤ 24) :
    Tracker.errorsBounded ⟨id, BitVec.ofNat 8 errors⟩ :=
  ⟨(toNat_ofNat_errors small).trans_le small, fun neither => absurd neither (isReal_iff_neither.mp real)⟩

theorem errorsBounded_zero (id : PatternId) : Tracker.errorsBounded ⟨id, 0⟩ :=
  ⟨Nat.zero_le _, fun _ => rfl⟩

theorem errorsBounded_lost : Tracker.lost.errorsBounded := errorsBounded_zero _

/-- No successor in the voice chain is a real pattern or UNKNOWN (R454). -/
theorem nextVoice_isContinuation {p q : PatternId} (next : nextVoice p = some q) : q.isContinuation = true := by
  revert next
  cases p <;> simp only [nextVoice, reduceCtorEq, false_implies, Option.some.injEq] <;> rintro rfl <;> rfl

/-! ### What a burst's header says of its sync field -/

/-- The pattern and the error count of a burst with NORMAL lock, against its sync field (R552). -/
def HeaderSound (f : SyncWord) (id : PatternId) (errors : BitVec 8) : Prop :=
  (id.isReal = true → ∃ c, (rom id).canonical = some c ∧ hamming f c = errors.toNat) ∧ (id.isReal = false → errors = 0)

theorem headerSound_of_match {f : SyncWord} {id : PatternId} {c : SyncWord} (hc : (rom id).canonical = some c)
    (small : hamming f c ≤ 24) : HeaderSound f id (BitVec.ofNat 8 (hamming f c)) := by
  have real : id.isReal = true := isReal_of_romWord (lock := .normal) hc
  exact ⟨fun _ => ⟨c, hc, (toNat_ofNat_errors small).symm⟩, fun unreal => by simp [real] at unreal⟩

theorem headerSound_zero (f : SyncWord) {id : PatternId} (unreal : id.isReal = false) : HeaderSound f id 0 :=
  ⟨fun real => by simp [unreal] at real, fun _ => rfl⟩

/-- What the current tracker is after a boundary at which it stays synchronized (R451, R452, R552). -/
theorem trackerStep_synchronized {cfg : Config} (legal : cfg.syncThreshold ≤ 24) {f : SyncWord} {t u : Tracker}
    (step : trackerStep cfg f t = (u, .synchronized)) :
    u.errorsBounded ∧ u.pat ≠ .unknown ∧ HeaderSound f u.pat u.err := by
  obtain ⟨m, found, h⟩ | ⟨p, -, next, h⟩ | ⟨-, -, h⟩ := trackerStep_cases cfg f t
  · obtain ⟨c, _, _, hc, hm, -, tests⟩ := syncCompare_some found
    have small : hamming f c ≤ 24 := by
      obtain rfl | ⟨near, -, -⟩ := tests
      · simp
      · omega
    have real : m.id.isReal = true := isReal_of_romWord (lock := .normal) hc
    obtain ⟨rfl, -⟩ := Prod.mk.inj (step.symm.trans h)
    rw [hm]
    exact ⟨errorsBounded_of_match real small, ne_unknown_of_isReal real, headerSound_of_match hc small⟩
  · have continuation := nextVoice_isContinuation next
    obtain ⟨rfl, -⟩ := Prod.mk.inj (step.symm.trans h)
    refine ⟨errorsBounded_zero p, ?_, headerSound_zero f ?_⟩
    · rintro rfl
      simp [PatternId.isContinuation] at continuation
    · rw [← Bool.not_eq_true, isReal_iff_neither]
      exact not_not.mpr (.inr continuation)
  · simp [h] at step

theorem trackerStep_lostSync {cfg : Config} {f : SyncWord} {t u : Tracker}
    (step : trackerStep cfg f t = (u, .lostSync)) : u = .lost := by
  obtain ⟨m, -, h⟩ | ⟨p, -, -, h⟩ | ⟨-, -, h⟩ := trackerStep_cases cfg f t
  · simp [h] at step
  · simp [h] at step
  · exact (Prod.mk.inj (step.symm.trans h)).1

/-- What a match of the matcher is, at a legal threshold (R411). -/
theorem searchCompare_match {order : List PatternId} {r : SyncWord} {threshold : Nat} {m : Match}
    (legal : threshold ≤ 24) (answer : searchCompare order r threshold = some m) :
    m.id.isReal = true ∧ m.errors ≤ 24 ∧ ∃ c, (rom m.id).canonical = some c ∧
      ((m.lock = .normal ∧ m.errors = hamming r c) ∨
        (m.lock ≠ .normal ∧ m.errors = 0 ∧ romWord m.lock m.id = some r)) := by
  obtain ⟨-, -, -, -, reports⟩ := searchCompare_some answer
  obtain ⟨c, hc, -, ⟨normal, errors, near⟩ | ⟨rotated, errors, -, const⟩⟩ := searchPattern_some reports
  · exact ⟨isReal_of_romWord (lock := .normal) hc, by omega, c, hc, .inl ⟨normal, errors⟩⟩
  · exact ⟨isReal_of_romWord (lock := .normal) hc, by omega, c, hc, .inr ⟨rotated, errors, const⟩⟩

/-! ### The rows of the FSM table under the invariants -/

/-- What a DIBIT step can leave of a state that meets the invariants, one constructor for each row of the FSM table
(R520): what held before, what the tracker's step gave, and the state it leaves. -/
inductive DibitRow (d : Dibit) (s : State) : State → Prop
  /-- Inside a slot. -/
  | inside (before : s.fsm = .synchronized) (short : s.cnt.toNat + 1 < 144) : DibitRow d s (receiveDibit d s)
  /-- A boundary with a burst: the tracker's, or a placeholder. -/
  | burst (t : Tracker) (id : PatternId) (errors : BitVec 8) (before : s.fsm = .synchronized)
      (last : s.cnt.toNat + 1 = 144) (bounded : t.errorsBounded)
      (stays : t.pat ≠ .unknown ∨ s.otherTracker.pat ≠ .unknown)
      (header : HeaderSound (syncFieldValue (bufPut s.mb d)) id errors) :
      DibitRow d s (emitBurst id errors .normal ((receiveDibit d s).setCurrent t)).toggleCurrent
  /-- A boundary at which both trackers are lost. -/
  | lost (before : s.fsm = .synchronized) (last : s.cnt.toNat + 1 = 144) (other : s.otherTracker.pat = .unknown) :
      DibitRow d s (returnToSearching ((receiveDibit d s).setCurrent .lost)).toggleCurrent
  /-- A matcher fire. -/
  | fire (m : Match) (before : s.fsm = .searching)
      (answer : searchCompare s.cfg.tableOrder (syncFieldValue (bufPut s.mb d)) s.cfg.searchThreshold = some m) :
      DibitRow d s (onFire m (fedState d s))
  /-- The sync-loss threshold. -/
  | loss (before : s.fsm = .searching) (last : s.cnt.toNat = 4944) :
      DibitRow d s { syncLossEvent 9600 (fedState d s) with cnt := 145 }
  /-- Searching, no match, below the threshold. -/
  | silent (before : s.fsm = .searching) (below : s.cnt.toNat + 1 ≤ 4944) : DibitRow d s (fedState d s)

theorem State.Inv.count_small {s : State} (h : s.Inv) : s.cnt.toNat < 4945 := by
  cases fsm : s.fsm with
  | searching => have := h.searchCount fsm; omega
  | synchronized => have := h.syncCount fsm; omega

theorem State.Inv.toNat_cnt_succ {s : State} (h : s.Inv) : (s.cnt + 1).toNat = s.cnt.toNat + 1 :=
  Machine.toNat_cnt_succ h.count_small

theorem State.Inv.thresholds_le {s : State} (h : s.Inv) : s.cfg.searchThreshold ≤ 24 ∧ s.cfg.syncThreshold ≤ 24 := by
  obtain ⟨⟨-, search⟩, ⟨-, sync⟩, -⟩ := (wellFormed_iff s.cfg).mp h.configLegal
  exact ⟨search, sync⟩

/-- A boundary of a state that meets the invariants (R521 to R524). -/
theorem State.Inv.boundaryRow {s : State} (h : s.Inv) (d : Dibit) (before : s.fsm = .synchronized)
    (last : s.cnt.toNat + 1 = 144) : DibitRow d s (boundary (receiveDibit d s)) := by
  obtain ⟨t, step, emits⟩ | ⟨t, step, other, emits⟩ | ⟨t, step, other, returns⟩ := boundary_cases (receiveDibit d s)
  · obtain ⟨bounded, stays, header⟩ := trackerStep_synchronized h.thresholds_le.2 step
    rw [emits]
    exact .burst t t.pat t.err before last bounded (.inl stays) header
  · obtain rfl := trackerStep_lostSync step
    rw [emits]
    exact .burst .lost .unknown 0 before last (errorsBounded_zero _) (.inr (of_decide_eq_true other))
      (headerSound_zero _ rfl)
  · obtain rfl := trackerStep_lostSync step
    rw [returns]
    exact .lost before last (not_not.mp (of_decide_eq_false other))

/-- A searching step without a match, of a state that meets the invariants (R511, R520). -/
theorem State.Inv.noMatchRow {s : State} (h : s.Inv) (d : Dibit) (before : s.fsm = .searching) :
    DibitRow d s (lossCheck (fedState d s)) := by
  have bound := h.searchCount before
  have counted : (fedState d s).cnt.toNat = s.cnt.toNat + 1 := h.toNat_cnt_succ
  obtain ⟨above, reports⟩ | ⟨within, same⟩ := lossCheck_cases (fedState d s)
  · have last : s.cnt.toNat = 4944 := by omega
    have rest : (fedState d s).cnt - 4800 = 145 := by
      apply BitVec.eq_of_toNat_eq
      rw [BitVec.toNat_sub, counted, last]
      rfl
    rw [reports, rest]
    exact .loss before last
  · rw [same]
    exact .silent before (by omega)

/-- Every DIBIT step of a state that meets the invariants is a row of the FSM table (R500, R520). -/
theorem State.Inv.dibitRow {s : State} (h : s.Inv) (d : Dibit) : DibitRow d s (dibitStep d s) := by
  obtain ⟨before, short, step⟩ | ⟨before, full, step⟩ | ⟨m, before, fires, step⟩ | ⟨before, -, step⟩ :=
    dibitStep_cases s d
  · rw [h.toNat_cnt_succ] at short
    rw [step]
    exact .inside before short
  · rw [h.toNat_cnt_succ] at full
    have := h.syncCount before
    rw [step]
    exact h.boundaryRow d before (by omega)
  · rw [← fedState, matchReport_fedState, h.shiftRegister_eq before d] at fires
    rw [step, lossCheck_onFire]
    exact .fire m before fires
  · rw [step]
    exact h.noMatchRow d before

/-! ### The invariants along a DIBIT step -/

section Preserved

variable {s : State} {d : Dibit}

theorem State.Inv.inside (h : s.Inv) (before : s.fsm = .synchronized) (short : s.cnt.toNat + 1 < 144) :
    (receiveDibit d s).Inv where
  configLegal := h.configLegal
  searchRegister searching := by simp [before] at searching
  searchDelay searching := by simp [before] at searching
  searchTrackers searching := by simp [before] at searching
  syncTracker := h.syncTracker
  syncCount _ := by
    rw [receiveDibit_cnt, h.toNat_cnt_succ]
    omega
  searchCount searching := by simp [before] at searching
  delayAgrees _ := by
    rw [State.shared, receiveDibit_cnt, h.toNat_cnt_succ]
    exact h.bufPut_agrees before d
  primaryErrors := h.primaryErrors
  secondaryErrors := h.secondaryErrors

/-- A state right after a burst meets the invariants if its tracker file does (R118 (c), (h)). -/
theorem inv_of_burst {t : State} (legal : t.cfg.wellFormed = true) (synchronized : t.fsm = .synchronized)
    (counted : t.cnt = 0) (stays : t.trk0.pat ≠ .unknown ∨ t.trk1.pat ≠ .unknown)
    (errors : t.trk0.errorsBounded ∧ t.trk1.errorsBounded) : t.Inv where
  configLegal := legal
  searchRegister searching := by simp [synchronized] at searching
  searchDelay searching := by simp [synchronized] at searching
  searchTrackers searching := by simp [synchronized] at searching
  syncTracker _ := stays
  syncCount _ := by simp [counted]
  searchCount searching := by simp [synchronized] at searching
  delayAgrees _ := by
    have fresh : t.shared = 0 := by simp [State.shared, counted]
    rw [fresh, List.drop_of_length_le t.db.size.le, List.drop_of_length_le t.mb.size.le]
  primaryErrors := errors.1
  secondaryErrors := errors.2

/-- A searching state meets the invariants if its register, delay line and count do, and no tracker is set (R118). -/
theorem inv_of_searching {t : State} (legal : t.cfg.wellFormed = true) (searching : t.fsm = .searching)
    (register : t.reg = syncFieldValue t.mb) (delay : t.db.slots = t.mb.slots.drop 90)
    (counted : t.cnt.toNat ≤ 4944) (lost : t.trk0.pat = .unknown ∧ t.trk1.pat = .unknown)
    (errors : t.trk0.errorsBounded ∧ t.trk1.errorsBounded) : t.Inv where
  configLegal := legal
  searchRegister _ := register
  searchDelay _ := delay
  searchTrackers _ := lost
  syncTracker synchronized := by simp [searching] at synchronized
  syncCount synchronized := by simp [searching] at synchronized
  searchCount _ := counted
  delayAgrees synchronized := by simp [searching] at synchronized
  primaryErrors := errors.1
  secondaryErrors := errors.2

/-- A DIBIT step keeps the invariants, row by row (R118). -/
theorem State.Inv.of_dibitRow (h : s.Inv) {t : State} (row : DibitRow d s t) : t.Inv := by
  cases row with
  | inside before short => exact h.inside before short
  | burst u id errors before last bounded stays _ =>
    refine inv_of_burst ?_ ?_ ?_ ?_ ?_
    · simpa using h.configLegal
    · simpa using before
    · simp
    · simpa using setCurrent_exists (s := receiveDibit d s) (fun t => t.pat ≠ .unknown) stays
    · simpa using setCurrent_forall (s := receiveDibit d s) Tracker.errorsBounded bounded h.otherTracker_errorsBounded
  | lost before last other =>
    have delay := h.bufPut_agrees before d
    rw [last] at delay
    refine inv_of_searching ?_ rfl ?_ ?_ ?_ ?_ ?_
    · simpa using h.configLegal
    · simp
    · simpa using delay
    · rw [toggleCurrent_cnt, returnToSearching_cnt, setCurrent_cnt, receiveDibit_cnt, h.toNat_cnt_succ]
      omega
    · simpa using setCurrent_forall (s := receiveDibit d s) (fun t => t.pat = .unknown) rfl other
    · simpa using setCurrent_forall (s := receiveDibit d s) (t := .lost) Tracker.errorsBounded errorsBounded_lost
        h.otherTracker_errorsBounded
  | fire m before answer =>
    obtain ⟨real, small, -⟩ := searchCompare_match h.thresholds_le.1 answer
    refine inv_of_burst ?_ rfl (onFire_cnt _ m) ?_ ?_
    · rw [onFire_cfg]
      exact h.configLegal
    · simpa [onFire, trackerSet] using setCurrent_exists (s := fedState d s) (fun t => t.pat ≠ .unknown)
        (t := ⟨m.id, BitVec.ofNat 8 m.errors⟩) (.inl (ne_unknown_of_isReal real))
    · simpa [onFire, trackerSet] using setCurrent_forall (s := fedState d s) Tracker.errorsBounded
        (errorsBounded_of_match real small) h.otherTracker_errorsBounded
  | loss before last =>
    exact inv_of_searching h.configLegal before (h.shiftRegister_eq before d) (h.bufPut_db before d) (by simp)
      (h.searchTrackers before) ⟨h.primaryErrors, h.secondaryErrors⟩
  | silent before below =>
    have counted : (fedState d s).cnt.toNat = s.cnt.toNat + 1 := h.toNat_cnt_succ
    exact inv_of_searching h.configLegal before (h.shiftRegister_eq before d) (h.bufPut_db before d) (by omega)
      (h.searchTrackers before) ⟨h.primaryErrors, h.secondaryErrors⟩

theorem State.Inv.of_dibitStep (h : s.Inv) (d : Dibit) : (dibitStep d s).Inv := h.of_dibitRow (h.dibitRow d)

theorem State.Inv.of_dibitSteps (h : s.Inv) (ds : List Dibit) : (dibitSteps ds s).Inv := by
  induction ds generalizing s with
  | nil => exact h
  | cons d ds ih => exact ih (h.of_dibitStep d)

end Preserved

/-! ### Power-on and the other transactions -/

/-- The sync field of an empty buffer is zero (R205, R207). -/
theorem syncFieldValue_zeros : syncFieldValue (.zeros 144) = 0 := by decide

/-- A fresh instance meets the invariants: everything is zero and nothing is synchronized (R117, R118). -/
theorem inv_powerOn {c : Config} (legal : c.wellFormed = true) : (State.powerOn c).Inv :=
  inv_of_searching legal rfl syncFieldValue_zeros.symm rfl (Nat.zero_le _) ⟨rfl, rfl⟩
    ⟨errorsBounded_lost, errorsBounded_lost⟩

/-- Settles O51: the default configuration is legal. -/
theorem powerOnMeetsTheInvariant : Obligations.PowerOnMeetsTheInvariant := by
  unfold Obligations.PowerOnMeetsTheInvariant
  exact ⟨fun _ => inv_powerOn, inv_powerOn (by decide)⟩

/-- The invariants look at neither the clock nor the mark nor the ports. -/
theorem State.Inv.withClockAndPorts {s : State} (h : s.Inv) (ms : Millis) (refused : Bool) (ws : List TxnWord)
    (es : List Event) (r : Option RefusalCode) :
    ({ s with ms := ms, refused := refused, input := ws, out := es, reply := r } : State).Inv :=
  ⟨h.configLegal, h.searchRegister, h.searchDelay, h.searchTrackers, h.syncTracker, h.syncCount, h.searchCount,
    h.delayAgrees, h.primaryErrors, h.secondaryErrors⟩

/-- Every transaction keeps the invariants (R118). -/
theorem State.Inv.of_exec {i : Instr} {s t : State} (h : s.Inv) (run : exec i s = .next t) : t.Inv := by
  cases i with
  | dibit d =>
    obtain ⟨rfl⟩ := run
    exact h.of_dibitStep d
  | byte b =>
    obtain ⟨rfl⟩ := run
    exact h.of_dibitSteps (byteDibits b)
  | timeHint v =>
    obtain ⟨rfl⟩ := run
    exact h.withClockAndPorts v s.refused s.input s.out s.reply
  | reset =>
    obtain ⟨rfl⟩ := run
    exact (inv_powerOn h.configLegal).withClockAndPorts s.ms s.refused s.input s.out s.reply

/-- Settles O52: a refusal changes the mark and the ports only, and a transaction keeps the invariants. -/
theorem stepKeepsTheInvariant : Obligations.StepKeepsTheInvariant := by
  unfold Obligations.StepKeepsTheInvariant
  intro s t h run
  obtain rfl | ⟨rest, code, rfl⟩ | ⟨rest, i, exec⟩ := step_next_cases run
  · exact h
  · exact h.withClockAndPorts s.ms true rest s.out (some code)
  · exact State.Inv.of_exec (h.withPorts rest s.out none) exec

end Sys2Proof.Machine

/-! SUPPORT. Statements about streams of dibits from a state that meets the invariants: the soundness of bursts (R552),
the events of a step and of a transaction (R710, R716), the clock (R601, R611) and the accounting (R551); and what the buffers
hold along any stream (R118 (f), (g)). -/

namespace Sys2Proof.Machine

/-- Settles O53: each buffer takes every dibit of the stream, the message buffer as long as no burst is rotated. -/
theorem buffersHoldTheStream : Obligations.BuffersHoldTheStream := by
  unfold Obligations.BuffersHoldTheStream
  refine fun ds s => ⟨?_, fun unrotated => ?_⟩
  · rw [dibitSteps_db, foldl_bufPut_slots]
  · rw [dibitSteps_mb s ds unrotated, foldl_bufPut_slots]

/-- The events of a stream are those of its first step and then those of the rest (R230). -/
theorem eventsSince_dibitSteps_cons (s : State) (d : Dibit) (ds : List Dibit) :
    eventsSince s (dibitSteps (d :: ds) s) =
      eventsSince s (dibitStep d s) ++ eventsSince (dibitStep d s) (dibitSteps ds (dibitStep d s)) :=
  eventsSince_append (dibitStep_out_grows s d) (dibitSteps_out_grows (dibitStep d s) ds)

@[simp] theorem eventsSince_self (s : State) : eventsSince s s = [] := List.drop_length

theorem eventsSince_of_out {s t : State} {es : List Event} (out : t.out = s.out ++ es) : eventsSince s t = es := by
  rw [eventsSince, out, List.drop_left]

theorem eventsSince_of_same_out {s t : State} (out : t.out = s.out) : eventsSince s t = [] :=
  eventsSince_of_out (by rw [out, List.append_nil])

/-! ### Sound bursts -/

/-- A burst with NORMAL lock is sound if its header agrees with its sync field (R552). -/
theorem sound_of_header {mb : DibitDelayBuffer 144} {id : PatternId} {errors : BitVec 8} (slot : Slot) (time : Millis)
    (header : HeaderSound (syncFieldValue mb) id errors) :
    Burst.sound ⟨burstValue mb, id, .normal, errors, slot, time⟩ := by
  rw [← burstSyncField_burstValue] at header
  exact ⟨fun ⟨_, real⟩ => header.1 real, fun rotated => absurd rfl rotated, fun unreal => ⟨rfl, header.2 unreal⟩⟩

/-- After a rotated match the repaired sync field is the canonical constant (R532, R552). -/
theorem syncFieldValue_repaired {mb : DibitDelayBuffer 144} {lock : CarrierLock} {id : PatternId} {c : SyncWord}
    (rotated : lock ≠ .normal) (hc : (rom id).canonical = some c) (const : romWord lock id = some (syncFieldValue mb)) :
    syncFieldValue (bufRotate mb (rotDibit (inverseLock lock))) = c := by
  have real := isReal_iff_mem.mp (isReal_of_romWord const)
  have row := (romWord_eq_map_rotWord id (List.mem_append_left _ real) lock (mem_rotatedLocks.mp rotated)).1
  rw [const, hc, Option.map_some, Option.some_inj] at row
  rw [syncFieldValue_bufRotate, row, rotWord_inverseLock]

/-- The burst of a fire is sound (R552). -/
theorem sound_of_match {mb : DibitDelayBuffer 144} {order : List PatternId} {threshold : Nat} {m : Match} (slot : Slot)
    (time : Millis) (legal : threshold ≤ 24) (answer : searchCompare order (syncFieldValue mb) threshold = some m) :
    Burst.sound ⟨burstValue (bufRotate mb (rotDibit (inverseLock m.lock))), m.id, m.lock, BitVec.ofNat 8 m.errors,
      slot, time⟩ := by
  obtain ⟨real, small, c, hc, ⟨normal, errors⟩ | ⟨rotated, errors, const⟩⟩ := searchCompare_match legal answer
  · have header := headerSound_of_match hc (errors ▸ small)
    rw [normal, errors]
    exact (bufRotate_normal mb).symm ▸ sound_of_header slot time header
  · have field := syncFieldValue_repaired rotated hc const
    refine ⟨fun ⟨normal, _⟩ => absurd normal rotated, fun _ => ?_, fun unreal => ?_⟩
    · rw [burstSyncField_burstValue, field, errors]
      exact ⟨hc, rfl⟩
    · exact absurd (real.symm.trans unreal) (by decide)

/-! ### What a step does to the counter, the clock and the output -/

/-- The outcomes of a DIBIT step from a state that meets the invariants: the FSM state, the counter, the clock and the
output it leaves, and what holds of the burst if there is one (R510, R511, R521 to R523, R530, R540, R541). -/
inductive DibitOutcome (d : Dibit) (s t : State) : Prop
  /-- The dibit is counted. -/
  | counted (fsm : t.fsm = s.fsm) (count : t.cnt.toNat = s.cnt.toNat + 1) (clock : t.ms = s.ms) (out : t.out = s.out)
  /-- A boundary without a burst. -/
  | lost (before : s.fsm = .synchronized) (after : t.fsm = .searching) (last : s.cnt.toNat = 143)
      (count : t.cnt.toNat = 144) (clock : t.ms = s.ms) (out : t.out = s.out)
  /-- A boundary with a burst. -/
  | burst (b : Burst) (before : s.fsm = .synchronized) (after : t.fsm = .synchronized) (last : s.cnt.toNat = 143)
      (count : t.cnt.toNat = 0) (clock : t.ms = s.ms) (out : t.out = s.out ++ [.burst b]) (normal : b.lock = .normal)
      (sound : b.sound)
  /-- The sync-loss threshold. -/
  | loss (before : s.fsm = .searching) (after : t.fsm = .searching) (last : s.cnt.toNat = 4944)
      (count : t.cnt.toNat = 145) (clock : t.ms = s.ms + 1000) (out : t.out = s.out ++ [.syncLoss 9600 s.ms])
  /-- A matcher fire. -/
  | fire (lock : CarrierLock) (b : Burst) (before : s.fsm = .searching) (after : t.fsm = .synchronized)
      (count : t.cnt.toNat = 0) (clock : t.ms = paddedClock (receiveDibit d s))
      (out : t.out = s.out ++ (fireCommands s.cfg lock ++ padding (receiveDibit d s) ++ [.burst b])) (sound : b.sound)

theorem State.Inv.outcome_of_dibitRow {s t : State} {d : Dibit} (h : s.Inv) (row : DibitRow d s t) :
    DibitOutcome d s t := by
  cases row with
  | inside before short => exact .counted rfl h.toNat_cnt_succ rfl rfl
  | burst u id errors before last bounded stays header =>
    rw [toggleCurrent_emitBurst_setCurrent u id errors (s := receiveDibit d s) (cnt_succ_eq_boundary last)]
    exact .burst _ before before (by omega) rfl rfl rfl rfl (sound_of_header _ _ header)
  | lost before last other =>
    refine .lost before rfl (by omega) ?_ (by simp) (by simp)
    rw [toggleCurrent_cnt, returnToSearching_cnt, setCurrent_cnt, receiveDibit_cnt, h.toNat_cnt_succ, last]
  | fire m before answer =>
    let b := emittedBurst (repairBuffer m.lock (fedState d s)) m.id (BitVec.ofNat 8 m.errors) m.lock
    rw [onFire_eq]
    refine .fire m.lock b before rfl rfl rfl ?_ (sound_of_match b.slot b.tsMs h.thresholds_le.1 answer)
    simp only [List.append_assoc]
    rfl
  | loss before last => exact .loss before before last rfl rfl rfl
  | silent before below => exact .counted rfl h.toNat_cnt_succ rfl rfl

theorem State.Inv.dibitOutcome {s : State} (h : s.Inv) (d : Dibit) : DibitOutcome d s (dibitStep d s) :=
  h.outcome_of_dibitRow (h.dibitRow d)

/-! ### The soundness of emitted bursts -/

theorem not_burst_mem_fireCommands {c : Config} {lock : CarrierLock} {b : Burst} :
    Event.burst b ∉ fireCommands c lock := by
  rw [mem_fireCommands]
  rintro ⟨-, o, -, command⟩
  simp at command

theorem not_burst_mem_padding {s : State} {b : Burst} : Event.burst b ∉ padding s := by
  rw [padding]
  split <;> simp

/-- Every burst a DIBIT step emits is sound (R552). -/
theorem DibitOutcome.sound_of_emitted {d : Dibit} {s t : State} (step : DibitOutcome d s t) {b : Burst}
    (emitted : Event.burst b ∈ eventsSince s t) : b.sound := by
  cases step with
  | counted _ _ _ out => simp [eventsSince_of_same_out out] at emitted
  | lost _ _ _ _ _ out => simp [eventsSince_of_same_out out] at emitted
  | burst b' _ _ _ _ _ out _ sound =>
    rw [eventsSince_of_out out, List.mem_singleton, Event.burst.injEq] at emitted
    exact emitted ▸ sound
  | loss _ _ _ _ _ out => simp [eventsSince_of_out out] at emitted
  | fire lock b' _ _ _ _ out sound =>
    simp only [eventsSince_of_out out, List.mem_append, List.mem_singleton, Event.burst.injEq,
      not_burst_mem_fireCommands, not_burst_mem_padding, false_or] at emitted
    exact emitted ▸ sound

/-- Every burst a stream emits is sound (R552). -/
theorem State.Inv.sound_of_emitted {s : State} (h : s.Inv) {ds : List Dibit} {b : Burst}
    (emitted : Event.burst b ∈ eventsSince s (dibitSteps ds s)) : b.sound := by
  induction ds generalizing s with
  | nil => simp [dibitSteps_nil] at emitted
  | cons d ds ih =>
    rw [eventsSince_dibitSteps_cons, List.mem_append] at emitted
    obtain now | later := emitted
    · exact (h.dibitOutcome d).sound_of_emitted now
    · exact ih (h.of_dibitStep d) later

/-- Settles O56: step by step along the stream. -/
theorem burstSyncFieldsAreSound : Obligations.BurstSyncFieldsAreSound := by
  unfold Obligations.BurstSyncFieldsAreSound
  exact fun _ _ h _ emitted => h.sound_of_emitted emitted

theorem mem_out_iff {s t : State} (grows : s.out <+: t.out) {e : Event} :
    e ∈ t.out ↔ e ∈ s.out ∨ e ∈ eventsSince s t := by
  obtain ⟨es, out⟩ := grows
  rw [eventsSince_of_out out.symm, ← out, List.mem_append]

/-- A transaction keeps the soundness of every emitted burst (R552). -/
theorem State.Inv.exec_sound {i : Instr} {s t : State} (h : s.Inv) (sound : ∀ b, Event.burst b ∈ s.out → b.sound)
    (run : exec i s = .next t) : ∀ b, Event.burst b ∈ t.out → b.sound := by
  intro b mem
  cases i with
  | dibit d =>
    obtain ⟨rfl⟩ := run
    exact ((mem_out_iff (dibitStep_out_grows s d)).mp mem).elim (sound b) (h.dibitOutcome d).sound_of_emitted
  | byte v =>
    obtain ⟨rfl⟩ := run
    exact ((mem_out_iff (dibitSteps_out_grows s _)).mp mem).elim (sound b) h.sound_of_emitted
  | timeHint v =>
    obtain ⟨rfl⟩ := run
    exact sound b mem
  | reset =>
    obtain ⟨rfl⟩ := run
    exact sound b mem

/-- Settles O57: the invariants are O52's, and of everything a step can do only a transaction emits. -/
theorem stepKeepsEmittedBurstsSound : Obligations.StepKeepsEmittedBurstsSound := by
  unfold Obligations.StepKeepsEmittedBurstsSound
  intro s t h sound run
  refine ⟨stepKeepsTheInvariant s t h run, ?_⟩
  obtain rfl | ⟨rest, code, rfl⟩ | ⟨rest, i, exec⟩ := step_next_cases run
  · exact sound
  · exact sound
  · exact State.Inv.exec_sound (h.withPorts rest s.out none) sound exec

/-! ### The clock -/

theorem advances_append (es fs : List Event) : advances (es ++ fs) = advances es + advances fs := by
  simp [advances]

@[simp] theorem advances_fireCommands (c : Config) (lock : CarrierLock) : advances (fireCommands c lock) = 0 := by
  cases lock <;> cases present : c.pllPresent <;> simp [fireCommands, pllOffset, present, advances, Event.advance]

/-- Padding advances the clock by its rounded bits, which fit the event (R540, R603). -/
theorem paddedClock_eq (s : State) (small : s.cnt.toNat ≤ 4945) : paddedClock s = s.ms + advances (padding s) := by
  have fits : (BitVec.ofNat 32 (2 * (s.cnt.toNat - 144))).toNat = 2 * (s.cnt.toNat - 144) :=
    Nat.mod_eq_of_lt (by omega)
  by_cases above : 144 < s.cnt.toNat
  · simp only [paddedClock, padding, above, if_true, advances, List.map_singleton, List.sum_singleton, Event.advance,
      fits]
  · simp [paddedClock, padding, above, advances]

theorem DibitOutcome.clock_eq {d : Dibit} {s t : State} (h : s.Inv) (step : DibitOutcome d s t) :
    t.ms = s.ms + advances (eventsSince s t) := by
  cases step with
  | counted _ _ clock out => simp [eventsSince_of_same_out out, clock, advances]
  | lost _ _ _ _ clock out => simp [eventsSince_of_same_out out, clock, advances]
  | burst _ _ _ _ _ clock out _ _ => simp [eventsSince_of_out out, clock, advances, Event.advance]
  | loss _ _ _ _ clock out =>
    rw [eventsSince_of_out out, clock]
    rfl
  | fire lock b _ _ _ clock out _ =>
    have received : (receiveDibit d s).cnt.toNat ≤ 4945 := by
      have := h.count_small
      rw [receiveDibit_cnt, h.toNat_cnt_succ]
      omega
    rw [eventsSince_of_out out, clock, paddedClock_eq _ received, advances_append, advances_append,
      advances_fireCommands]
    simp [advances, Event.advance]

/-- Settles O48, by induction on the stream: a step advances the clock by what its events say. -/
theorem clockFollowsSyncLosses : Obligations.ClockFollowsSyncLosses := by
  unfold Obligations.ClockFollowsSyncLosses
  intro ds
  induction ds with
  | nil => exact fun s _ => by simp [dibitSteps_nil, advances]
  | cons d ds ih =>
    intro s h
    rw [eventsSince_dibitSteps_cons, dibitSteps_cons, ih _ (h.of_dibitStep d), (h.dibitOutcome d).clock_eq h,
      advances_append, add_assoc]

/-! ### The accounting -/

theorem eventDibits_append (es fs : List Event) : eventDibits (es ++ fs) = eventDibits es + eventDibits fs := by
  simp [eventDibits]

@[simp] theorem eventDibits_fireCommands (c : Config) (lock : CarrierLock) : eventDibits (fireCommands c lock) = 0 := by
  cases lock <;> cases present : c.pllPresent <;> simp [fireCommands, pllOffset, present, eventDibits, Event.dibits]

/-- Padding accounts for the dibits beyond 144 (R540, R551). -/
theorem eventDibits_padding (s : State) (small : s.cnt.toNat ≤ 4945) : eventDibits (padding s) = s.cnt.toNat - 144 := by
  by_cases above : 144 < s.cnt.toNat
  · simp only [padding, above, if_true, eventDibits, List.map_singleton, List.sum_singleton, Event.dibits]
    rw [BitVec.toNat_ofNat]
    omega
  · simp only [padding, above, if_false]
    exact (Nat.sub_eq_zero_of_le (not_lt.mp above)).symm

/-- What one DIBIT step adds to the account: its dibit, and at an early fire the reset zeros of the burst (R551). -/
theorem DibitOutcome.accounted_eq {d : Dibit} {s t : State} (h : s.Inv) (step : DibitOutcome d s t) :
    t.accounted = s.accounted + 1 +
      if s.fsm = .searching ∧ t.fsm = .synchronized then 144 - (s.cnt.toNat + 1) else 0 := by
  cases step with
  | counted fsm count _ out =>
    have stays : ¬ (s.fsm = .searching ∧ t.fsm = .synchronized) := by
      rintro ⟨before, after⟩
      simp [fsm, before] at after
    rw [if_neg stays, State.accounted, State.accounted, out]
    omega
  | lost before after last count _ out =>
    rw [if_neg (by simp [before]), State.accounted, State.accounted, out]
    omega
  | burst b before after last count _ out _ _ =>
    have one : eventDibits [.burst b] = 144 := rfl
    rw [if_neg (by simp [before]), State.accounted, State.accounted, out, eventDibits_append, one]
    omega
  | loss before after last count _ out =>
    have reported : eventDibits [.syncLoss 9600 s.ms] = 4800 := rfl
    rw [if_neg (by simp [after]), State.accounted, State.accounted, out, eventDibits_append, reported]
    omega
  | fire lock b before after count _ out _ =>
    have one : eventDibits [.burst b] = 144 := rfl
    have received : (receiveDibit d s).cnt.toNat = s.cnt.toNat + 1 := h.toNat_cnt_succ
    have small := h.count_small
    rw [if_pos ⟨before, after⟩, State.accounted, State.accounted, out, eventDibits_append, eventDibits_append,
      eventDibits_append, eventDibits_fireCommands, eventDibits_padding _ (by omega), one]
    omega

/-- No fire can come before 144 counted dibits: the framer is synchronized, or has counted 143. -/
def LateFire (s : State) : Prop := s.fsm = .synchronized ∨ 143 ≤ s.cnt.toNat

theorem DibitOutcome.lateFire {d : Dibit} {s t : State} (step : DibitOutcome d s t) (late : LateFire s) :
    LateFire t := by
  cases step with
  | counted fsm count _ _ =>
    obtain synchronized | full := late
    · exact .inl (fsm.trans synchronized)
    · exact .inr (by omega)
  | lost _ _ _ count _ _ => exact .inr (by omega)
  | burst _ _ after _ _ _ _ _ _ => exact .inl after
  | loss _ _ _ count _ _ => exact .inr (by omega)
  | fire _ _ _ after _ _ _ _ => exact .inl after

theorem DibitOutcome.accounted_of_lateFire {d : Dibit} {s t : State} (h : s.Inv) (step : DibitOutcome d s t)
    (late : LateFire s) : t.accounted = s.accounted + 1 := by
  rw [step.accounted_eq h]
  split
  next fires =>
    obtain synchronized | full := late
    · simp [synchronized] at fires
    · omega
  next => rfl

/-- Settles O58: a step adds one to the account, and an early fire adds the zeros of its burst. -/
theorem dibitsAreConserved : Obligations.DibitsAreConserved := by
  unfold Obligations.DibitsAreConserved
  constructor
  · intro ds
    induction ds with
    | nil => exact fun _ _ _ => rfl
    | cons d ds ih =>
      intro s h late
      have step := h.dibitOutcome d
      rw [dibitSteps_cons, ih _ (h.of_dibitStep d) (step.lateFire late), step.accounted_of_lateFire h late,
        List.length_cons]
      omega
  · rintro d s _ h ⟨rfl⟩ _
    exact (h.dibitOutcome d).accounted_eq h

/-! ### The events of a step and of a transaction -/

/-- The events of a fire at a time: an optional PLL command, optional padding and a burst (R530, R540, R710). -/
def FireEvents (time : Millis) (es : List Event) : Prop :=
  ∃ command padding b, es = command ++ padding ++ [.burst b] ∧ (command = [] ∨ ∃ o, command = [.pllCorrect o]) ∧
    (padding = [] ∨ ∃ n, padding = [.syncLoss n time])

theorem fireCommands_cases (c : Config) (lock : CarrierLock) :
    fireCommands c lock = [] ∨ ∃ o, fireCommands c lock = [.pllCorrect o] := by
  cases lock <;> cases present : c.pllPresent <;> simp [fireCommands, pllOffset, present]

theorem padding_cases (s : State) : padding s = [] ∨ ∃ n, padding s = [.syncLoss n s.ms] := by
  rw [padding]
  split
  · exact .inr ⟨_, rfl⟩
  · exact .inl rfl

theorem fireEvents_of_outcome (lock : CarrierLock) (d : Dibit) (s : State) (b : Burst) :
    FireEvents s.ms (fireCommands s.cfg lock ++ padding (receiveDibit d s) ++ [.burst b]) :=
  ⟨_, _, b, rfl, fireCommands_cases s.cfg lock, padding_cases (receiveDibit d s)⟩

/-- A fire emits at most three events, and three only with a command and padding (R710, R716). -/
theorem FireEvents.cases {time : Millis} {es : List Event} (h : FireEvents time es) :
    es.length ≤ 2 ∨ ∃ offset n b, es = [.pllCorrect offset, .syncLoss n time, .burst b] := by
  obtain ⟨_, _, b, rfl, rfl | ⟨o, rfl⟩, rfl | ⟨n, rfl⟩⟩ := h
  · simp
  · simp
  · simp
  · exact .inr ⟨o, n, b, rfl⟩

theorem FireEvents.length_le {time : Millis} {es : List Event} (h : FireEvents time es) : es.length ≤ 3 := by
  obtain short | ⟨o, n, b, rfl⟩ := h.cases
  · omega
  · rfl

/-- Settles O54: each outcome has one of the four shapes. -/
theorem eventsOfADibitStep : Obligations.EventsOfADibitStep := by
  unfold Obligations.EventsOfADibitStep
  rintro d s _ h ⟨rfl⟩
  cases h.dibitOutcome d with
  | counted _ _ _ out => exact ⟨[], by simpa using out, .inl rfl⟩
  | lost _ _ _ _ _ out => exact ⟨[], by simpa using out, .inl rfl⟩
  | burst b before _ _ _ _ out normal _ => exact ⟨_, out, .inr (.inr (.inr ⟨before, b, rfl, normal⟩))⟩
  | loss before _ _ _ _ out => exact ⟨_, out, .inr (.inl ⟨before, rfl⟩)⟩
  | fire lock b before after _ _ out _ =>
    exact ⟨_, out, .inr (.inr (.inl ⟨before, after, fireEvents_of_outcome lock d s b⟩))⟩

/-- Before its next boundary a synchronized framer only counts (R520). -/
theorem dibitSteps_inside {s : State} (synchronized : s.fsm = .synchronized) {ds : List Dibit}
    (short : s.cnt.toNat + ds.length ≤ 143) :
    (dibitSteps ds s).fsm = .synchronized ∧ (dibitSteps ds s).cnt.toNat = s.cnt.toNat + ds.length ∧
      (dibitSteps ds s).out = s.out := by
  induction ds generalizing s with
  | nil => exact ⟨synchronized, rfl, rfl⟩
  | cons d ds ih =>
    rw [List.length_cons] at short
    have count : (receiveDibit d s).cnt.toNat = s.cnt.toNat + 1 := toNat_cnt_succ (by omega)
    have first : dibitStep d s = receiveDibit d s := dibitStep_of_inside synchronized (by
      rw [receiveDibit_cnt] at count
      omega)
    obtain ⟨fsm, later, out⟩ := ih (s := receiveDibit d s) synchronized (by omega)
    rw [dibitSteps_cons, first, List.length_cons]
    exact ⟨fsm, by omega, out⟩

section Transaction

variable {s : State}

/-- An emission that leaves the framer synchronized is the last for almost a slot (R520, R710). -/
theorem eventsSince_of_emission {d : Dibit} {ds : List Dibit} (after : (dibitStep d s).fsm = .synchronized)
    (count : (dibitStep d s).cnt.toNat = 0) (short : ds.length ≤ 143) :
    eventsSince s (dibitSteps (d :: ds) s) = eventsSince s (dibitStep d s) ∧
      (dibitSteps (d :: ds) s).fsm = .synchronized := by
  obtain ⟨fsm, -, out⟩ := dibitSteps_inside after (ds := ds) (by omega)
  rw [eventsSince_dibitSteps_cons, eventsSince_of_same_out out, List.append_nil]
  exact ⟨rfl, fsm⟩

/-- A searching framer that does not reach the threshold within less than a slot fires at most once (R510, R710). -/
theorem State.Inv.events_below_threshold (h : s.Inv) (searching : s.fsm = .searching) {ds : List Dibit}
    (short : ds.length ≤ 143) (below : s.cnt.toNat + ds.length ≤ 4944) :
    eventsSince s (dibitSteps ds s) = [] ∨
      FireEvents s.ms (eventsSince s (dibitSteps ds s)) ∧ (dibitSteps ds s).fsm = .synchronized := by
  induction ds generalizing s with
  | nil => exact .inl (eventsSince_self s)
  | cons d ds ih =>
    rw [List.length_cons] at short below
    cases h.dibitOutcome d with
    | counted fsm count clock out =>
      have later := ih (h.of_dibitStep d) (fsm.trans searching) (by omega) (by omega)
      rw [eventsSince_dibitSteps_cons, eventsSince_of_same_out out, List.nil_append]
      rwa [clock] at later
    | lost before => simp [searching] at before
    | burst _ before => simp [searching] at before
    | loss _ _ last => omega
    | fire lock b _ after count _ out _ =>
      obtain ⟨events, fsm⟩ := eventsSince_of_emission after count (ds := ds) (by omega)
      rw [events, eventsSince_of_out out]
      exact .inr ⟨fireEvents_of_outcome lock d s b, fsm⟩

/-- A searching framer within less than a slot reports at most one loss and fires at most once after it (R511, R710). -/
theorem State.Inv.events_of_searching (h : s.Inv) (searching : s.fsm = .searching) {ds : List Dibit}
    (short : ds.length ≤ 143) :
    eventsSince s (dibitSteps ds s) = [] ∨
      FireEvents s.ms (eventsSince s (dibitSteps ds s)) ∨
      eventsSince s (dibitSteps ds s) = [.syncLoss 9600 s.ms] ∨
      ∃ es, eventsSince s (dibitSteps ds s) = .syncLoss 9600 s.ms :: es ∧ FireEvents (s.ms + 1000) es ∧
        (dibitSteps ds s).fsm = .synchronized := by
  induction ds generalizing s with
  | nil => exact .inl (eventsSince_self s)
  | cons d ds ih =>
    rw [List.length_cons] at short
    cases h.dibitOutcome d with
    | counted fsm count clock out =>
      have later := ih (h.of_dibitStep d) (fsm.trans searching) (by omega)
      rw [eventsSince_dibitSteps_cons, eventsSince_of_same_out out, List.nil_append]
      rwa [clock] at later
    | lost before => simp [searching] at before
    | burst _ before => simp [searching] at before
    | loss _ after _ count clock out =>
      have later := (h.of_dibitStep d).events_below_threshold after (ds := ds) (by omega) (by omega)
      rw [eventsSince_dibitSteps_cons, eventsSince_of_out out, dibitSteps_cons]
      rw [clock] at later
      obtain silent | ⟨fires, fsm⟩ := later
      · exact .inr (.inr (.inl (by rw [silent]; rfl)))
      · exact .inr (.inr (.inr ⟨_, rfl, fires, fsm⟩))
    | fire lock b _ after count _ out _ =>
      obtain ⟨events, -⟩ := eventsSince_of_emission after count (ds := ds) (by omega)
      rw [events, eventsSince_of_out out]
      exact .inr (.inl (fireEvents_of_outcome lock d s b))

/-- A synchronized framer within less than a slot emits one burst, or is lost and fires at most once (R521, R710). -/
theorem State.Inv.events_of_synchronized (h : s.Inv) (synchronized : s.fsm = .synchronized) {ds : List Dibit}
    (short : ds.length ≤ 143) :
    eventsSince s (dibitSteps ds s) = [] ∨ FireEvents s.ms (eventsSince s (dibitSteps ds s)) ∨
      ∃ b, eventsSince s (dibitSteps ds s) = [.burst b] := by
  induction ds generalizing s with
  | nil => exact .inl (eventsSince_self s)
  | cons d ds ih =>
    rw [List.length_cons] at short
    cases h.dibitOutcome d with
    | counted fsm count clock out =>
      have later := ih (h.of_dibitStep d) (fsm.trans synchronized) (by omega)
      rw [eventsSince_dibitSteps_cons, eventsSince_of_same_out out, List.nil_append]
      rwa [clock] at later
    | lost _ after _ count clock out =>
      have later := (h.of_dibitStep d).events_below_threshold after (ds := ds) (by omega) (by omega)
      rw [eventsSince_dibitSteps_cons, eventsSince_of_same_out out, List.nil_append]
      rw [clock] at later
      exact later.imp_right fun fires => .inl fires.1
    | burst b _ after _ count _ out _ _ =>
      obtain ⟨events, -⟩ := eventsSince_of_emission after count (ds := ds) (by omega)
      rw [events, eventsSince_of_out out]
      exact .inr (.inr ⟨b, rfl⟩)
    | loss before => simp [synchronized] at before
    | fire _ _ before => simp [synchronized] at before

/-- A short stream emits at most three events, but for a loss and then a rotated, padded fire (R710, log entry 13). -/
theorem State.Inv.events_bounded (h : s.Inv) {ds : List Dibit} (short : ds.length ≤ 143) :
    (eventsSince s (dibitSteps ds s)).length ≤ 3 ∨
      (s.fsm = .searching ∧ (dibitSteps ds s).fsm = .synchronized ∧ ∃ offset padding burst,
        eventsSince s (dibitSteps ds s) =
          [.syncLoss 9600 s.ms, .pllCorrect offset, .syncLoss padding (s.ms + 1000), .burst burst]) := by
  cases fsm : s.fsm with
  | searching =>
    obtain events | fires | events | ⟨es, events, fires, after⟩ := h.events_of_searching fsm short
    · simp [events]
    · exact .inl fires.length_le
    · simp [events]
    · obtain few | ⟨offset, n, b, rfl⟩ := fires.cases
      · exact .inl (by rw [events, List.length_cons]; omega)
      · exact .inr ⟨rfl, after, offset, n, b, events⟩
  | synchronized =>
    obtain events | fires | ⟨b, events⟩ := h.events_of_synchronized fsm short
    · simp [events]
    · exact .inl fires.length_le
    · simp [events]

end Transaction

/-- Settles O55: a transaction is at most four dibits, and only a BYTE is more than one. -/
theorem eventsOfOneTransactionAreBounded : Obligations.EventsOfOneTransactionAreBounded := by
  unfold Obligations.EventsOfOneTransactionAreBounded
  intro i s t h run
  cases i with
  | dibit d =>
    obtain ⟨rfl⟩ := run
    left
    cases h.dibitOutcome d with
    | counted _ _ _ out => simp [eventsSince_of_same_out out]
    | lost _ _ _ _ _ out => simp [eventsSince_of_same_out out]
    | burst _ _ _ _ _ _ out => simp [eventsSince_of_out out]
    | loss _ _ _ _ _ out => simp [eventsSince_of_out out]
    | fire lock b _ _ _ _ out _ =>
      rw [eventsSince_of_out out]
      exact (fireEvents_of_outcome lock d s b).length_le
  | byte b =>
    obtain ⟨rfl⟩ := run
    refine (h.events_bounded (ds := byteDibits b) (by simp [length_byteDibits])).imp_right ?_
    rintro ⟨before, after, offset, padding, burst, events⟩
    exact ⟨before, after, b, offset, padding, burst, rfl, events⟩
  | timeHint v =>
    obtain ⟨rfl⟩ := run
    exact .inl (by simp [eventsSince])
  | reset =>
    obtain ⟨rfl⟩ := run
    exact .inl (by simp [eventsSince])

end Sys2Proof.Machine

/-! SUPPORT. Statements of 42_burst_framer.md section 7 and 70_reset_and_hazards.md section 3: one burst in every slot
(R550), and silence until the matcher can hold a pattern (R811). -/

namespace Sys2Proof.Machine

/-! ### Cadence -/

/-- A boundary after which the framer is synchronized emits one burst (R521, R522). -/
theorem boundary_burst {s : State} (full : s.cnt = 144) (synchronized : (boundary s).fsm = .synchronized) :
    (boundary s).cnt = 0 ∧ ∃ b, (boundary s).out = s.out ++ [.burst b] := by
  obtain ⟨t, -, emits⟩ | ⟨t, -, -, emits⟩ | ⟨t, -, -, returns⟩ := boundary_cases s
  · rw [emits, toggleCurrent_emitBurst_setCurrent _ _ _ full]
    exact ⟨rfl, _, rfl⟩
  · rw [emits, toggleCurrent_emitBurst_setCurrent _ _ _ full]
    exact ⟨rfl, _, rfl⟩
  · simp [returns] at synchronized

/-- A whole slot between two synchronized states emits one burst, with its last dibit (R550). -/
theorem slot_burst {s : State} (before : s.fsm = .synchronized) (start : s.cnt = 0) {ds : List Dibit}
    (length : ds.length = 144) (after : (dibitSteps ds s).fsm = .synchronized) :
    (dibitSteps ds s).cnt = 0 ∧ ∃ b, (dibitSteps ds s).out = s.out ++ [.burst b] := by
  obtain ⟨ds, d, rfl⟩ : ∃ es d, ds = es ++ [d] :=
    ⟨_, _, (List.dropLast_append_getLast (List.ne_nil_of_length_pos (by omega))).symm⟩
  rw [List.length_append, List.length_singleton] at length
  have fresh : s.cnt.toNat = 0 := by rw [start]; rfl
  obtain ⟨fsm, count, out⟩ := dibitSteps_inside before (ds := ds) (by omega)
  have last : (dibitSteps ds s).cnt.toNat + 1 = 144 := by omega
  have step := dibitStep_of_last d fsm last
  rw [dibitSteps_append, dibitSteps_cons, dibitSteps_nil, step] at after ⊢
  rw [← out]
  exact boundary_burst (cnt_succ_eq_boundary last) after

section Cadence

variable {k : Nat} {ds : List Dibit} {s : State} (start : s.cnt = 0) (length : ds.length = 144 * k)
  (boundaries : ∀ j ≤ k, (dibitSteps (ds.take (144 * j)) s).fsm = .synchronized)

include start length boundaries

/-- At the end of slot `j` nothing is counted and `j` bursts are out (R550). -/
theorem slots_burst {j : Nat} (hj : j ≤ k) :
    (dibitSteps (ds.take (144 * j)) s).cnt = 0 ∧
      ∃ bs : List Burst, bs.length = j ∧ (dibitSteps (ds.take (144 * j)) s).out = s.out ++ bs.map .burst := by
  induction j with
  | zero => exact ⟨start, [], rfl, (List.append_nil _).symm⟩
  | succ j ih =>
    obtain ⟨count, bs, bursts, out⟩ := ih (by omega)
    have slot : (List.take 144 (ds.drop (144 * j))).length = 144 := by
      rw [List.length_take, List.length_drop]
      omega
    have next : dibitSteps (ds.take (144 * (j + 1))) s =
        dibitSteps (List.take 144 (ds.drop (144 * j))) (dibitSteps (ds.take (144 * j)) s) := by
      rw [Nat.mul_succ, List.take_add, dibitSteps_append]
    have after := boundaries (j + 1) hj
    rw [next] at after ⊢
    obtain ⟨count', b, out'⟩ := slot_burst (boundaries j (by omega)) count slot after
    refine ⟨count', bs ++ [b], by simp [bursts], ?_⟩
    rw [out', out, List.map_append, List.append_assoc]
    rfl

/-- Inside a slot nothing is emitted (R550). -/
theorem out_inside_slot {n : Nat} (hn : n < ds.length) :
    (dibitSteps (ds.take n) s).out = (dibitSteps (ds.take (144 * (n / 144))) s).out := by
  have slot : n / 144 ≤ k := by omega
  obtain ⟨count, -⟩ := slots_burst start length boundaries slot
  have split : ds.take n = ds.take (144 * (n / 144)) ++ List.take (n % 144) (ds.drop (144 * (n / 144))) := by
    rw [← List.take_add, Nat.div_add_mod]
  have inside : (dibitSteps (ds.take (144 * (n / 144))) s).cnt.toNat +
      (List.take (n % 144) (ds.drop (144 * (n / 144)))).length ≤ 143 := by
    rw [count, List.length_take]
    have zero : (0 : BitVec 32).toNat = 0 := rfl
    omega
  obtain ⟨-, -, out⟩ := dibitSteps_inside (boundaries _ slot) inside
  rw [split, dibitSteps_append, out]

end Cadence

/-- Settles O59: slot by slot, and inside each slot the framer only counts. -/
theorem oneBurstPerSlot : Obligations.OneBurstPerSlot := by
  unfold Obligations.OneBurstPerSlot
  intro k ds s _ start length boundaries
  refine ⟨?_, fun j hj => (slots_burst start length boundaries hj).2, fun n hn =>
    out_inside_slot start length boundaries hn⟩
  have last := (slots_burst start length boundaries le_rfl).1
  rwa [List.take_of_length_le length.le] at last

/-! ### Silence before the register can hold a pattern -/

/-- Every dibit of a canonical constant is odd, and a rotated constant is not zero in its three oldest dibits (R314). -/
theorem romWord_fills_the_register : ∀ id ∈ realPatterns,
    (rom id).canonical.all (fun c => decide (∀ j < 24, c.getLsbD (2 * j) = true)) = true ∧
      ∀ lock ∈ [CarrierLock.plus90, .minus90, .inverted],
        (romWord lock id).all (fun c => decide (4 ^ 21 ≤ c.toNat)) = true := by
  decide +kernel

/-- A register with `k` dibits behind zeros differs from a canonical constant in each of the other dibits (R420). -/
theorem sub_le_hamming {r c : SyncWord} {id : PatternId} {k : Nat} (hc : (rom id).canonical = some c)
    (filled : r.toNat < 4 ^ k) : 24 - k ≤ hamming r c := by
  have real := isReal_iff_mem.mp (isReal_of_romWord (lock := .normal) hc)
  have odd : ∀ j < 24, c.getLsbD (2 * j) = true := by
    simpa only [hc, Option.all_some, decide_eq_true_eq] using (romWord_fills_the_register id real).1
  have differ : (Finset.Ico k 24).image (2 * ·) ⊆ differingBits r c := by
    intro i hi
    obtain ⟨j, hj, rfl⟩ := Finset.mem_image.mp hi
    obtain ⟨above, below⟩ := Finset.mem_Ico.mp hj
    have zero : r.getLsbD (2 * j) = false := Nat.testBit_lt_two_pow <|
      calc r.toNat < 4 ^ k := filled
        _ ≤ 4 ^ j := Nat.pow_le_pow_right (by decide) above
        _ = 2 ^ (2 * j) := (Nat.pow_mul 2 2 j).symm
    rw [differingBits, Finset.mem_filter, Finset.mem_range, zero, odd j below]
    exact ⟨by omega, by decide⟩
  calc 24 - k = ((Finset.Ico k 24).image (2 * ·)).card := by
        rw [Finset.card_image_of_injective _ fun a b h => Nat.eq_of_mul_eq_mul_left two_pos h, Nat.card_Ico]
    _ ≤ hamming r c := hamming_eq_card r c ▸ Finset.card_le_card differ

/-- A register with few dibits behind zeros matches nothing (R811). -/
theorem searchCompare_of_few {order : List PatternId} {r : SyncWord} {threshold k : Nat} (filled : r.toNat < 4 ^ k)
    (few : k ≤ 21) (far : threshold < 24 - k) : searchCompare order r threshold = none := by
  rw [searchCompare_eq_none_iff]
  intro id _ hits
  have real := isReal_iff_mem.mp (isReal_of_searchHits hits)
  obtain ⟨c, hc, near⟩ | ⟨lock, rotated, const⟩ := searchHits_iff.mp hits
  · have := sub_le_hamming hc filled
    omega
  · have large := (romWord_fills_the_register id real).2 lock (mem_rotatedLocks.mp rotated)
    simp only [const, Option.all_some, decide_eq_true_eq] at large
    have := Nat.pow_le_pow_right (n := 4) (by decide) few
    omega

/-- What a state is `n` dibits after power-on or RESET, as long as nothing has matched: its register holds the dibits that
have fallen off the delay line (R811). -/
structure Quiet (start s : State) (n : Nat) : Prop where
  searching : s.fsm = .searching
  silent : s.out = start.out
  config : s.cfg = start.cfg
  count : s.cnt.toNat = n
  filled : s.reg.toNat < 4 ^ (n - 54)

/-- One more dibit keeps a short stream quiet (R811). -/
theorem Quiet.of_dibitStep {start s : State} {n : Nat} (quiet : Quiet start s n) {d : Dibit}
    (oldest : n < 54 → bufOldest s.db = 0) (legal : start.cfg.searchThreshold ≤ 24)
    (short : n + 1 < 78 - start.cfg.searchThreshold) (few : n + 1 < 76) :
    Quiet start (dibitStep d s) (n + 1) := by
  have filled : (shiftRegister s.reg (bufOldest s.db)).toNat < 4 ^ (n + 1 - 54) := by
    rw [toNat_shiftRegister]
    refine (Nat.mod_le _ _).trans_lt ?_
    have register := quiet.filled
    by_cases early : n < 54
    · obtain ⟨before, after⟩ : n - 54 = 0 ∧ n + 1 - 54 = 0 := by omega
      have zero : (0 : Dibit).toNat = 0 := rfl
      rw [before] at register
      rw [after, oldest early, zero]
      omega
    · have exponent : n + 1 - 54 = n - 54 + 1 := by omega
      have := (bufOldest s.db).isLt
      rw [exponent, Nat.pow_succ]
      omega
  have silent : searchCompare s.cfg.tableOrder (shiftRegister s.reg (bufOldest s.db)) s.cfg.searchThreshold = none := by
    rw [quiet.config]
    by_cases early : n + 1 ≤ 54
    · have empty : shiftRegister s.reg (bufOldest s.db) = 0 := by
        rw [Nat.sub_eq_zero_of_le early] at filled
        exact BitVec.eq_of_toNat_eq (Nat.lt_one_iff.mp filled)
      rw [empty]
      exact zeroRegisterNeverMatches _ _ legal
    · exact searchCompare_of_few filled (by omega) (by omega)
  have received : (s.cnt + 1).toNat = n + 1 := by
    have count := quiet.count
    rw [toNat_cnt_succ (by omega), count]
  have step : dibitStep d s = fedState d s := by
    rw [dibitStep_of_noMatch quiet.searching silent, lossCheck_of_within]
    rw [fedState_cnt, received]
    omega
  rw [step]
  exact ⟨quiet.searching, quiet.silent, quiet.config, received, filled⟩

/-- A short stream from a state with zeros everywhere is quiet (R811). -/
theorem quiet_dibitSteps {start : State} (quiet : Quiet start start 0) (zeros : start.db = .zeros 54)
    (legal : start.cfg.searchThreshold ≤ 24) {ds : List Dibit} (short : ds.length < 78 - start.cfg.searchThreshold)
    (few : ds.length < 76) : Quiet start (dibitSteps ds start) ds.length := by
  induction ds using List.reverseRecOn with
  | nil => exact quiet
  | append_singleton ds d ih =>
    rw [List.length_append, List.length_singleton] at short few ⊢
    have before := ih (by omega) (by omega)
    have oldest : ds.length < 54 → bufOldest (dibitSteps ds start).db = 0 := fun early => by
      rw [dibitSteps_db, zeros, bufOldest_foldl_bufPut_zeros, if_pos early]
    rw [dibitSteps_append, dibitSteps_cons, dibitSteps_nil]
    exact before.of_dibitStep oldest legal short few

/-- Settles O60: power-on and RESET both leave zeros, and a quiet stream emits nothing. -/
theorem noFireBeforeTheDelayLineFills : Obligations.NoFireBeforeTheDelayLineFills := by
  unfold Obligations.NoFireBeforeTheDelayLineFills
  constructor
  · intro c ds legal short few
    obtain ⟨⟨-, bound⟩, -⟩ := (wellFormed_iff c).mp legal
    have quiet := quiet_dibitSteps (start := .powerOn c) ⟨rfl, rfl, rfl, rfl, Nat.one_pos⟩ rfl bound short few
    exact ⟨quiet.searching, quiet.silent⟩
  · rintro s _ ds legal ⟨rfl⟩ short few
    obtain ⟨⟨-, bound⟩, -⟩ := (wellFormed_iff s.cfg).mp legal
    have quiet := quiet_dibitSteps (start := resetState s) ⟨rfl, rfl, rfl, rfl, Nat.one_pos⟩ rfl bound short few
    exact ⟨quiet.searching, quiet.silent⟩

end Sys2Proof.Machine
